-- ==== Sys2Proof/Word.lean ====
section
/-! DEFINITION. The link word of the WD3208 (00_scope.md, "Words on the link": 16 bits, bit 15 the MSB). -/

namespace Sys2Proof

/-- A word of the link: 16 bits. -/
abbrev Word := BitVec 16

/-- Half a word: the width of a tag, a command code, a sequence of a stream and a descriptor epoch. -/
abbrev Byte := BitVec 8

end Sys2Proof
end

