-- ==== Sys2Proof/Config.lean ====
section
/-! DEFINITION. What the WD3208's guide leaves open: constants without a body, so that no proof can see a value of
theirs. -/

namespace Sys2Proof

/-- Whether a RESET_N low pulse shorter than 10 µs is recognised. R193: "which of the two occurs is not fixed". The
argument is the number of values drawn before (`State.draws`), so that every such pulse has a value of its own.
DESIGN CHOICE, safe (log entry 2): a claim holds for every value. -/
opaque Config.shortPulseRecognised : Nat → Bool

end Sys2Proof
end

