-- ==== Sys2Proof/Syntax.lean ====
section
/-! DEFINITION. The commands of the WD3208: one constructor for each row of spec/opcode_table.json, in the table's
order.

A row that is a frame carries the port it arrives at and its words between the delimiters, header, payload and CRC
word, as the receiver collects them (R181): so a damaged, misaddressed or malformed frame is a command like any
other. DESIGN CHOICE, safe (log entry 8). -/

namespace Sys2Proof

/-- The two links and the ports that own them (chapter 10). -/
inductive Port where
  | field
  | control
  deriving DecidableEq, Repr

/-- The commands, one for each row of the table. -/
inductive Instr where
  /-- POWER_ON (R193): RESET_N is released after it was low for this many nanoseconds. -/
  | powerOn (lowNanoseconds : Nat)
  /-- FIELD_LINK_UP (R180, R189): the field receiver's 100 µs interval runs out with lock held. -/
  | fieldLinkUp
  /-- CONTROL_LINK_UP (R180, R190): the control receiver's 100 µs interval runs out with lock held. -/
  | controlLinkUp
  /-- FIELD_LINK_LOSS (R180, R188): 1 ms passes without a symbol on the field link. -/
  | fieldLinkLoss
  /-- CONTROL_LINK_LOSS (R180, R190): 1 ms passes without a symbol on the control link. -/
  | controlLinkLoss
  /-- SAMPLE (R95): the end symbol of a SAMPLE frame. -/
  | sample (port : Port) (words : List Word)
  /-- DESCRIBE (R38): the end symbol of a DESCRIBE frame. -/
  | describe (port : Port) (words : List Word)
  /-- PASS_UP (R183): the end symbol of a PASS frame on the field link. -/
  | passUp (port : Port) (words : List Word)
  /-- PASS_DOWN (R183): the end symbol of a PASS frame on the control link. -/
  | passDown (port : Port) (words : List Word)
  /-- CYCLE (R27): the end symbol of a CYCLE frame. -/
  | cycle (port : Port) (words : List Word)
  /-- SILENCE_SUPERVISION (R34): the Cycle Unit takes a mark for silence supervision. -/
  | silenceSupervision
  /-- LIFETIME_COUNTDOWN (R49): the Descriptor Unit takes a mark. -/
  | lifetimeCountdown
  /-- BUDGET_RELOAD (R109): the Conditioning Unit takes a mark. -/
  | budgetReload
  /-- COMMIT (R86): the Profile Table takes a mark. -/
  | commit
  /-- CAPTURE_CYCLE_MARK (R149, R151): the Capture Unit takes a mark. -/
  | captureCycleMark
  /-- NOP (R135), a COMMAND frame; so are all rows down to RESET_PART_CONTEXTS. -/
  | nop (port : Port) (words : List Word)
  /-- BIND (R16). -/
  | bind (port : Port) (words : List Word)
  /-- UNBIND (R17). -/
  | unbind (port : Port) (words : List Word)
  /-- SET-CONTEXT (R18, R19). -/
  | setContext (port : Port) (words : List Word)
  /-- HOLD (R20). -/
  | hold (port : Port) (words : List Word)
  /-- RESUME (R21). -/
  | resume (port : Port) (words : List Word)
  /-- RESELECT of one context (R72). -/
  | reselect (port : Port) (words : List Word)
  /-- RESELECT with target 255 (R73). -/
  | reselectAll (port : Port) (words : List Word)
  /-- CONTEXT-READ (R22). -/
  | contextRead (port : Port) (words : List Word)
  /-- COUNTERS-READ of a context (R118). -/
  | countersRead (port : Port) (words : List Word)
  /-- COUNTERS-READ with target 255 (R192). -/
  | countersReadPart (port : Port) (words : List Word)
  /-- MAP-WRITE (R68, R69). -/
  | mapWrite (port : Port) (words : List Word)
  /-- MAP-READ (R71). -/
  | mapRead (port : Port) (words : List Word)
  /-- PROFILE-STAGE (R81, R82). -/
  | profileStage (port : Port) (words : List Word)
  /-- PROFILE-DISCARD (R83). -/
  | profileDiscard (port : Port) (words : List Word)
  /-- PROFILE-COMMIT (R85). -/
  | profileCommit (port : Port) (words : List Word)
  /-- PROFILE-READ (R84). -/
  | profileRead (port : Port) (words : List Word)
  /-- SET-PART (R136). -/
  | setPart (port : Port) (words : List Word)
  /-- CAPTURE (R145, R148). -/
  | capture (port : Port) (words : List Word)
  /-- ACK-REPORTS (R165). -/
  | ackReports (port : Port) (words : List Word)
  /-- ABORT (R139). -/
  | abort (port : Port) (words : List Word)
  /-- STATUS (R138). -/
  | status (port : Port) (words : List Word)
  /-- RESET-PART FULL (R141). -/
  | resetPartFull (port : Port) (words : List Word)
  /-- RESET-PART CONTEXTS (R141). -/
  | resetPartContexts (port : Port) (words : List Word)
  /-- RETRY_TIMER_EXPIRY (R168): the retry timer runs out. -/
  | retryTimerExpiry
  /-- EMISSION (R174, R175): the Report Unit takes one emission. -/
  | emission
  /-- TRANSMISSION_END (R187): the port's transmitter has sent the end symbol of its frame. -/
  | transmissionEnd (port : Port)
  /-- RESET_N_LOW (R193): RESET_N is driven low. -/
  | resetNLow
  /-- SYMBOL_LOCK_GAINED (R180): the port's receiver gains symbol lock. -/
  | symbolLockGained (port : Port)
  /-- SYMBOL_LOCK_LOST (R180): the port's receiver loses symbol lock. -/
  | symbolLockLost (port : Port)
  /-- START_SYMBOL_IN_FRAME (R181): a start symbol arrives inside a frame. -/
  | startSymbolInFrame (port : Port)
  deriving DecidableEq, Repr

end Sys2Proof
end

