-- ==== Sys2Proof/Decode.lean ====
section
/-! DEFINITION. Reading a frame from its words and building one (R181, R182, R194, R195), the codes of commands
(R122), and which row of the table a received frame is.

The rows of spec/opcode_table.json carry no bits, so `decodeTableWord` reads none of them. -/

namespace Sys2Proof

/-! ### The CRC word (R194) -/

/-- One bit of the CRC with generator polynomial 0x1021: the register moves up, and takes the polynomial when its
top bit and the message bit differ. -/
def crcBit (c : Word) (b : Bool) : Word :=
  if c.msb = b then c <<< 1 else (c <<< 1) ^^^ 0x1021#16

/-- The sixteen bits of one word, most significant first, without reflection. -/
def crcWord (c w : Word) : Word :=
  (List.range 16).foldl (fun c i => crcBit c (w.getMsbD i)) c

/-- R194: the 16-bit CRC of a list of words, initial value 0xFFFF and no final inversion. -/
def crc (ws : List Word) : Word :=
  ws.foldl crcWord 0xFFFF#16

/-! ### The header (R194) -/

/-- The fields of a frame's header that are not reserved. -/
structure Header where
  kind : BitVec 4
  dst : BitVec 5
  src : BitVec 5
  seq : Byte
  channel : BitVec 3
  length : BitVec 6
  deriving DecidableEq, Repr

/-- The frame kinds of R194. -/
def kindSample : BitVec 4 := 1
def kindDescribe : BitVec 4 := 2
def kindCycle : BitVec 4 := 3
def kindCommand : BitVec 4 := 4
def kindReport : BitVec 4 := 5
def kindMeasure : BitVec 4 := 6
def kindPass : BitVec 4 := 7

/-- The three header words, reserved bits 0 (R194). -/
def Header.words (h : Header) : List Word :=
  [h.kind ++ h.dst ++ h.src ++ 0#2, h.seq ++ h.channel ++ 0#5, 0#10 ++ h.length]

/-- The header fields read from three words (R194); the reserved bits are read by `reservedClear`. -/
def Header.read (w0 w1 w2 : Word) : Header :=
  { kind := w0.extractLsb' 12 4
    dst := w0.extractLsb' 7 5
    src := w0.extractLsb' 2 5
    seq := w1.extractLsb' 8 8
    channel := w1.extractLsb' 5 3
    length := w2.extractLsb' 0 6 }

/-- R194: every reserved header bit is 0. -/
def reservedClear (w0 w1 w2 : Word) : Bool :=
  w0.extractLsb' 0 2 = 0 && w1.extractLsb' 0 5 = 0 && w2.extractLsb' 6 10 = 0

/-- The words of a frame the part builds (R187, R194): header, payload, and the CRC of both. -/
def frameWords (kind : BitVec 4) (dst src : BitVec 5) (seq : Byte) (channel : BitVec 3)
    (payload : List Word) : List Word :=
  let body :=
    Header.words { kind, dst, src, seq, channel, length := BitVec.ofNat 6 payload.length } ++ payload
  body ++ [crc body]

/-! ### The five checks of a received frame (R181) and the accepted combinations (R182) -/

/-- The four receive counters of a frame that is discarded at the port (R181). -/
inductive FrameError where
  | length
  | crc
  | header
  | stray
  deriving DecidableEq, Repr

/-- Where a port hands a good frame (R182). -/
inductive FrameUse where
  | sample
  | describe
  | passUp
  | command
  | cycle
  | passDown
  deriving DecidableEq, Repr

/-- A frame that passed the checks: what the blocks read of it. `words` is the whole frame, which a PASS frame is
kept as (R183). -/
structure Frame where
  src : BitVec 5
  seq : Byte
  channel : BitVec 3
  payload : List Word
  words : List Word
  deriving DecidableEq, Repr

/-- What the port makes of a complete frame: discarded and counted under one error, or good and handed on. -/
inductive Reception where
  | bad (e : FrameError)
  | good (u : FrameUse) (f : Frame)
  deriving DecidableEq, Repr

/-- A node's link address is 1 to 29 (R1, R182). -/
def isNode (a : BitVec 5) : Bool :=
  1 ≤ a.toNat && a.toNat ≤ 29

/-- R182: the combinations of kind, destination and source a port accepts; any other is stray. -/
def acceptedUse (p : Port) (kind : BitVec 4) (dst src : BitVec 5) : Option FrameUse :=
  match p with
  | .field =>
    if kind = kindSample && dst = 31 && isNode src then some .sample
    else if kind = kindDescribe && dst = 31 && isNode src then some .describe
    else if kind = kindPass && dst = 0 && isNode src then some .passUp
    else none
  | .control =>
    if kind = kindCommand && dst = 31 && src = 0 then some .command
    else if kind = kindCycle && dst = 31 && src = 0 then some .cycle
    else if kind = kindPass && 1 ≤ dst.toNat && dst.toNat ≤ 30 && src = 0 then some .passDown
    else none

/-- R181: the port's checks in their order, from the words between the delimiters. -/
def receive (p : Port) (ws : List Word) : Reception :=
  if ws.length < 4 || 64 < ws.length then .bad .length
  else if ws.getLast? ≠ some (crc ws.dropLast) then .bad .crc
  else
    match ws with
    | w0 :: w1 :: w2 :: rest =>
      let h := Header.read w0 w1 w2
      if 60 < h.length.toNat || ws.length ≠ h.length.toNat + 4 then .bad .length
      else if h.kind = 0 || 7 < h.kind.toNat || !reservedClear w0 w1 w2 then .bad .header
      else
        match acceptedUse p h.kind h.dst h.src with
        | none => .bad .stray
        | some u =>
          .good u { src := h.src, seq := h.seq, channel := h.channel, payload := rest.dropLast, words := ws }
    | _ => .bad .length

/-! ### Command codes (R122) -/

/-- The commands that wait in the Command Queue (R122, class queued). -/
inductive QueuedCode where
  | nop
  | bind
  | unbind
  | setContext
  | hold
  | resume
  | reselect
  | contextRead
  | countersRead
  | mapWrite
  | mapRead
  | profileStage
  | profileDiscard
  | profileCommit
  | profileRead
  | setPart
  | capture
  deriving DecidableEq, Repr

/-- The commands that are carried out on arrival (R122, class immediate). -/
inductive ImmediateCode where
  | ackReports
  | abort
  | status
  | resetPart
  deriving DecidableEq, Repr

/-- A known command code (R122). -/
inductive CommandCode where
  | queued (q : QueuedCode)
  | immediate (i : ImmediateCode)
  deriving DecidableEq, Repr

/-- The codes of the queued commands (R122). -/
def QueuedCode.toByte : QueuedCode → Byte
  | .nop => 1
  | .bind => 2
  | .unbind => 3
  | .setContext => 4
  | .hold => 5
  | .resume => 6
  | .reselect => 7
  | .contextRead => 8
  | .countersRead => 9
  | .mapWrite => 10
  | .mapRead => 11
  | .profileStage => 12
  | .profileDiscard => 13
  | .profileCommit => 14
  | .profileRead => 15
  | .setPart => 16
  | .capture => 17

/-- The codes of the immediate commands (R122). -/
def ImmediateCode.toByte : ImmediateCode → Byte
  | .ackReports => 32
  | .abort => 33
  | .status => 34
  | .resetPart => 35

/-- Every queued command, in the order of the codes. -/
def QueuedCode.all : List QueuedCode :=
  [.nop, .bind, .unbind, .setContext, .hold, .resume, .reselect, .contextRead, .countersRead, .mapWrite,
    .mapRead, .profileStage, .profileDiscard, .profileCommit, .profileRead, .setPart, .capture]

/-- Every immediate command, in the order of the codes. -/
def ImmediateCode.all : List ImmediateCode :=
  [.ackReports, .abort, .status, .resetPart]

/-- R122: the command a code names; none where it is unknown. -/
def CommandCode.ofByte (b : Byte) : Option CommandCode :=
  match QueuedCode.all.find? (fun q => q.toByte = b) with
  | some q => some (.queued q)
  | none => (ImmediateCode.all.find? (fun i => i.toByte = b)).map .immediate

/-- The command code of payload word 0 (R195). -/
def codeOf (w0 : Word) : Byte := w0.extractLsb' 8 8

/-- The tag of payload word 0 (R195). -/
def tagOf (w0 : Word) : Byte := w0.extractLsb' 0 8

/-- The words of a COMMAND frame as a controller sends it (R121, R195), under any header channel and sequence. -/
def commandWords (seq : Byte) (channel : BitVec 3) (code tag : Byte) (target : Word)
    (params : List Word) : List Word :=
  frameWords kindCommand 31 0 seq channel ((code ++ tag) :: target :: params)

/-! ### Which row of the table a received frame is -/

/-- The row of a queued command: RESELECT and COUNTERS-READ have a row of their own for target 255 (R73, R192). -/
def QueuedCode.row (p : Port) (ws : List Word) (target : Option Word) : QueuedCode → Instr
  | .nop => .nop p ws
  | .bind => .bind p ws
  | .unbind => .unbind p ws
  | .setContext => .setContext p ws
  | .hold => .hold p ws
  | .resume => .resume p ws
  | .reselect => if target = some 255 then .reselectAll p ws else .reselect p ws
  | .contextRead => .contextRead p ws
  | .countersRead => if target = some 255 then .countersReadPart p ws else .countersRead p ws
  | .mapWrite => .mapWrite p ws
  | .mapRead => .mapRead p ws
  | .profileStage => .profileStage p ws
  | .profileDiscard => .profileDiscard p ws
  | .profileCommit => .profileCommit p ws
  | .profileRead => .profileRead p ws
  | .setPart => .setPart p ws
  | .capture => .capture p ws

/-- The row of an immediate command; a RESET-PART of neither scope is malformed and is no row's (R124). -/
def ImmediateCode.row (p : Port) (ws : List Word) (scope : Option Word) : ImmediateCode → Option Instr
  | .ackReports => some (.ackReports p ws)
  | .abort => some (.abort p ws)
  | .status => some (.status p ws)
  | .resetPart =>
    if scope = some 0 then some (.resetPartFull p ws)
    else if scope = some 1 then some (.resetPartContexts p ws)
    else none

/-- The row of a COMMAND payload; none where it has no word 0 or an unknown code. -/
def commandRow (p : Port) (ws payload : List Word) : Option Instr :=
  match payload with
  | [] => none
  | w0 :: rest =>
    match CommandCode.ofByte (codeOf w0) with
    | none => none
    | some (.queued q) => some (q.row p ws rest.head?)
    | some (.immediate i) => i.row p ws rest[1]?

/-- The row of the table that the words of a frame at a port are; none where the frame is discarded at the port
(R181) or is a COMMAND frame of no row. -/
def frameCommand (p : Port) (ws : List Word) : Option Instr :=
  match receive p ws with
  | .bad _ => none
  | .good u f =>
    match u with
    | .sample => some (.sample p ws)
    | .describe => some (.describe p ws)
    | .passUp => some (.passUp p ws)
    | .passDown => some (.passDown p ws)
    | .cycle => some (.cycle p ws)
    | .command => commandRow p ws f.payload

/-- The command that a word of the table's bits spells. The table gives no row any bits, so none. -/
def decodeTableWord (_nbits _w : Nat) : Option Instr := none

end Sys2Proof
end

