-- ==== Sys2Proof/Machine/State.lean ====
section
/-! DEFINITION. Every piece of state the spec gives the WD3208, as plain data, and its value after power-on. -/

namespace Sys2Proof.Machine

/-! ### Outcomes of a step -/

/-- No event stops the part: the spec turns every error into a count, an event latch, a refusal that is latched, or
an outcome in a report (INVENTORY.md, Faults). So there is no fault. -/
inductive Fault where
  deriving DecidableEq, Repr

/-- What the model may refuse. -/
inductive Refusal where
  /-- Raised by an arm of `exec` whose row has no meaning yet; no arm raises it. Safe: the model stops. -/
  | notModelled (mnemonic : String)
  deriving DecidableEq, Repr

/-! ### Sparse stores -/

/-- A store of 2^w entries, each absent or present, as the list of its present entries with keys strictly rising
(log entry 11). Absent is what an unlisted key reads as. -/
abbrev Table (w : Nat) (α : Type) := List (BitVec w × α)

/-- The canonical form of a sparse store: keys strictly rising. -/
abbrev Table.wf {w : Nat} {α : Type} (t : Table w α) : Prop :=
  t.Pairwise (fun a b => a.1 < b.1)

/-! ### Contexts (chapter 1) -/

/-- The five states of a context (R13). -/
inductive ContextState where
  | free
  | bound
  | unmapped
  | active
  | stale
  deriving DecidableEq, Repr

/-- The selection mode (R3): an AUTO context carries no fixed profile. -/
inductive SelectionMode where
  | auto
  | fixed (profile : BitVec 6)
  deriving DecidableEq, Repr

/-- The miss policy (R4, R62). -/
inductive MissPolicy where
  | drop
  | retain
  deriving DecidableEq, Repr

/-- The stale policy (R4, R104). -/
inductive StalePolicy where
  | discard
  | forward
  deriving DecidableEq, Repr

/-- The key of a stream (R1). -/
structure Key where
  node : BitVec 5
  channel : BitVec 3
  deriving DecidableEq, Repr

/-- The five sample encodings (R54). -/
inductive Encoding where
  | unsigned12
  | signed12
  | unsigned16
  | signed16
  | signed24
  deriving DecidableEq, Repr

/-- A descriptor (R5). -/
structure Descriptor where
  cls : BitVec 4
  range : BitVec 3
  encoding : Encoding
  unit : BitVec 4
  serial : BitVec 32
  deriving DecidableEq, Repr

/-- The sequence tracker (R9). -/
inductive Tracker where
  | resync
  | expect (seq : Byte)
  deriving DecidableEq, Repr

/-- The eleven counters of a context, in the order COUNTERS-READ returns them (R118). -/
structure ContextCounters where
  accepted : BitVec 32 := 0
  conditioned : BitVec 32 := 0
  missed : BitVec 32 := 0
  duplicates : BitVec 32 := 0
  discarded : BitVec 32 := 0
  budgetDrops : BitVec 32 := 0
  queueDrops : BitVec 32 := 0
  clamped : BitVec 32 := 0
  malformed : BitVec 32 := 0
  descriptors : BitVec 32 := 0
  changes : BitVec 32 := 0
  deriving DecidableEq, Repr

/-- An entry of an event latch (R172). Its kind is its key in the latch. -/
structure LatchEntry where
  count : Byte
  detail : List Word
  deriving DecidableEq, Repr

/-- An event latch: at most one entry per kind (R172), keyed by the kind's number. -/
abbrev Latch := Table 4 LatchEntry

/-- The twelve context event kinds (R11). -/
inductive ContextKind where
  | descNew
  | descChanged
  | descInvalid
  | descStale
  | selectMiss
  | profileRetired
  | gap
  | silent
  | overBudget
  | queueOverflow
  | discarding
  | sampleMalformed
  deriving DecidableEq, Repr

/-- The nine part event kinds (section 9.7). -/
inductive PartKind where
  | restarted
  | controlRestart
  | fieldDown
  | fieldUp
  | cycleSkip
  | unboundTraffic
  | passDrop
  | refusals
  | ackInvalid
  deriving DecidableEq, Repr

/-- The number of a context kind (R11). -/
def ContextKind.code : ContextKind → BitVec 4
  | .descNew => 1
  | .descChanged => 2
  | .descInvalid => 3
  | .descStale => 4
  | .selectMiss => 5
  | .profileRetired => 6
  | .gap => 7
  | .silent => 8
  | .overBudget => 9
  | .queueOverflow => 10
  | .discarding => 11
  | .sampleMalformed => 12

/-- The number of a part kind (section 9.7). -/
def PartKind.code : PartKind → BitVec 4
  | .restarted => 1
  | .controlRestart => 2
  | .fieldDown => 3
  | .fieldUp => 4
  | .cycleSkip => 5
  | .unboundTraffic => 6
  | .passDrop => 7
  | .refusals => 8
  | .ackInvalid => 9

/-- A context record (section 1.2) with the event latch of its owner (R172). The default of every field is its FREE
value. -/
structure Context where
  state : ContextState := .free
  key : Option Key := none
  held : Bool := false
  variant : BitVec 1 := 0
  mode : SelectionMode := .auto
  missPolicy : MissPolicy := .drop
  stalePolicy : StalePolicy := .discard
  descriptor : Option Descriptor := none
  epoch : Byte := 0
  lifetime : BitVec 4 := 8
  remaining : BitVec 4 := 0
  silenceLimit : BitVec 4 := 0
  silenceCount : BitVec 4 := 0
  silentReported : Bool := false
  activeProfile : Option (BitVec 6) := none
  newProfile : Bool := false
  tracker : Tracker := .resync
  outputSeq : Byte := 0
  quota : Nat := 0
  budget : Nat := 0
  reportMask : BitVec 12 := 0xFFF
  counters : ContextCounters := {}
  latch : Latch := []
  deriving DecidableEq, Repr

/-- The FREE record (section 1.2), its latch empty (R13). -/
def Context.free : Context := {}

/-! ### Profiles (chapter 5) -/

/-- The fields of a valid profile record (R76). -/
structure Profile where
  inputOffset : BitVec 24
  gain : BitVec 16
  shift : BitVec 4
  outputOffset : BitVec 32
  clampLow : BitVec 32
  clampHigh : BitVec 32
  unit : BitVec 4
  deriving DecidableEq, Repr

/-- A staged record (R80): a target and a full record; no record is a retirement. -/
structure Staged where
  target : BitVec 6
  record : Option Profile
  deriving DecidableEq, Repr

/-! ### The Measure Queue (chapter 6) -/

/-- A MEASURE frame as it was built (R114, R115, R116). -/
structure MeasureFrame where
  channel : BitVec 3
  seq : Byte
  context : Fin 32
  stale : Bool
  gap : Bool
  clamped : Bool
  newProfile : Bool
  unit : BitVec 4
  profile : BitVec 6
  epoch : Byte
  generation : Word
  values : List (BitVec 32)
  deriving DecidableEq, Repr

/-! ### The Command Unit (chapter 7) -/

/-- A command in the Command Queue, as it arrived (R128). -/
structure Command where
  tag : Byte
  code : QueuedCode
  target : Word
  params : List Word
  deriving DecidableEq, Repr

/-- The twelve outcomes of a final report (R132). -/
inductive CommandOutcome where
  | done
  | wrongState
  | badParameter
  | keyInUse
  | stagingFull
  | flushed
  | aborted
  | timeout
  | descChanged
  | stale
  | linkDown
  | spanRange
  deriving DecidableEq, Repr

/-! ### The Capture Unit (chapter 8) -/

/-- The two modes of a capture (R145). -/
inductive CaptureMode where
  | zero
  | span
  deriving DecidableEq, Repr

/-- Where the source record of a capture came from (R146). -/
inductive CaptureSource where
  | table
  | staging
  deriving DecidableEq, Repr

/-- The two stages a capture can be in between events (R147). -/
inductive CaptureStage where
  | armed
  | collecting
  deriving DecidableEq, Repr

/-- The capture record while a capture is in progress (R147). -/
structure Capture where
  context : Fin 32
  profile : BitVec 6
  mode : CaptureMode
  n : Nat
  t : Nat
  reference : BitVec 32
  source : CaptureSource
  epoch : Byte
  stage : CaptureStage
  sum : Int
  count : Nat
  cycles : Nat
  gaps : Nat
  deriving DecidableEq, Repr

/-! ### The Report Unit (chapter 9) -/

/-- The 33 owners of events (R172). -/
inductive Owner where
  | part
  | context (i : Fin 32)
  deriving DecidableEq, Repr

/-- The fields of a report by class (R162, R163). -/
inductive ReportBody where
  | completion (tag code : Byte) (outcome : CommandOutcome) (stage context : Byte) (data : List Word)
  | event (owner : Owner) (kind : BitVec 4) (count : Byte) (detail : List Word)
  deriving DecidableEq, Repr

/-- A report record (R162): its sequence, whether it is SENT, and its fields. -/
structure Report where
  seq : Word
  sent : Bool
  body : ReportBody
  deriving DecidableEq, Repr

/-- The report path (R170). -/
inductive ReportPath where
  | running
  | stalled
  deriving DecidableEq, Repr

/-! ### Ports (chapter 10) -/

/-- The state of a link and its receiver (R180, R181). -/
structure Link where
  /-- The link is UP. -/
  up : Bool := false
  /-- The 100 µs detection interval is running. -/
  locking : Bool := false
  /-- A start symbol inside a frame has begun the frame now being received (log entry 10). -/
  midFrame : Bool := false
  deriving DecidableEq, Repr

/-- The frame the field transmitter is sending (R184). -/
inductive FieldTx where
  | cycleCopy (number : Word)
  | pass (words : List Word)
  deriving DecidableEq, Repr

/-- The frame the control transmitter is sending (R185), as its words. -/
inductive ControlTx where
  | report (words : List Word)
  | measure (words : List Word)
  | pass (words : List Word)
  deriving DecidableEq, Repr

/-- The 24 port and part counters (R191), in the table's order. -/
structure PartCounters where
  fieldGood : BitVec 32 := 0
  fieldCrc : BitVec 32 := 0
  fieldLength : BitVec 32 := 0
  fieldHeader : BitVec 32 := 0
  fieldStray : BitVec 32 := 0
  fieldSent : BitVec 32 := 0
  copiesReplaced : BitVec 32 := 0
  copiesDropped : BitVec 32 := 0
  controlGood : BitVec 32 := 0
  controlCrc : BitVec 32 := 0
  controlLength : BitVec 32 := 0
  controlHeader : BitVec 32 := 0
  controlStray : BitVec 32 := 0
  controlSent : BitVec 32 := 0
  passDropped : BitVec 32 := 0
  cyclesTaken : BitVec 32 := 0
  cycleDuplicates : BitVec 32 := 0
  cycleSkips : BitVec 32 := 0
  cyclesMalformed : BitVec 32 := 0
  commandsReceived : BitVec 32 := 0
  commandsRefused : BitVec 32 := 0
  commandDuplicates : BitVec 32 := 0
  immediatesTaken : BitVec 32 := 0
  commandsAdmitted : BitVec 32 := 0
  deriving DecidableEq, Repr

/-- Cycle marks that the Cycle Unit has taken and that have yet to be taken as an event of their own at each block
(R29, R33; log entry 7). -/
structure Marks where
  silence : Nat := 0
  lifetime : Nat := 0
  budget : Nat := 0
  commit : Nat := 0
  capture : Nat := 0
  deriving DecidableEq, Repr

/-! ### The whole part -/

/-- The state of the part. The default of every field is its value right after power-on (R193). -/
structure State where
  /-- MODEL's own: the commands waiting to be taken, first in, first out (log entry 1). -/
  pending : List Instr := []
  /-- MODEL's own: how many free values have been drawn (log entry 2). -/
  draws : Nat := 0
  /-- RESET_N is driven low (R193). -/
  resetHeld : Bool := false
  /-- The field link (R180). -/
  fieldLink : Link := {}
  /-- The control link (R180). -/
  controlLink : Link := {}
  /-- The frame on the field transmitter; none when idle (R184). -/
  fieldTx : Option FieldTx := none
  /-- The frame on the control transmitter; none when idle (R185). -/
  controlTx : Option ControlTx := none
  /-- The Downstream Pass Queue (R183). -/
  downQueue : List (List Word) := []
  /-- The Upstream Pass Queue (R183). -/
  upQueue : List (List Word) := []
  /-- The pending-cycle slot: the number whose copy waits (R30). -/
  cycleSlot : Option Word := none
  /-- Measures-since-pass (R186). -/
  measuresSincePass : Nat := 0
  /-- The 24 port and part counters (R191). -/
  part : PartCounters := {}
  /-- The Stream Map (R1), keyed by node and channel. -/
  streamMap : Table 8 (Fin 32) := []
  /-- The Context Table (section 1.2). -/
  contexts : Vector Context 32 := Vector.replicate 32 Context.free
  /-- The last cycle number (R25). -/
  lastCycle : Option Word := none
  /-- Cycle marks on their way to the blocks (R29). -/
  marks : Marks := {}
  /-- The Selection Map (R58). -/
  selectionMap : Table 8 (BitVec 6) := []
  /-- The Profile Table: an unlisted record is invalid (R76). -/
  profiles : Table 6 Profile := []
  /-- The generation number (R79). -/
  generation : Word := 0
  /-- The Staging Area, in order (R80). -/
  staging : List Staged := []
  /-- The commit-pending flag (R85). -/
  commitPending : Bool := false
  /-- The Measure Queue (R111). -/
  measureQueue : List MeasureFrame := []
  /-- The Command Queue, head first (R128). -/
  commandQueue : List Command := []
  /-- The head of the Command Queue stays as the executing command (R131). -/
  executing : Bool := false
  /-- The Recent Command List, oldest first (R126). -/
  recent : List (Byte × Byte) := []
  /-- The capture record; none when idle (R147). -/
  capture : Option Capture := none
  /-- The Report Queue, oldest first (R160). -/
  reports : List Report := []
  /-- The reservations count (R129). -/
  reservations : Nat := 0
  /-- The next report sequence (R161). -/
  nextReportSeq : Word := 0
  /-- The report path (R170). -/
  path : ReportPath := .running
  /-- The retry timer: the interval it was started with, none when stopped (R167). -/
  retryTimer : Option Byte := none
  /-- The retry count (R167). -/
  retryCount : Nat := 0
  /-- The retry interval in milliseconds (R136). -/
  retryInterval : Byte := 20
  /-- The retry limit (R136). -/
  retryLimit : BitVec 4 := 4
  /-- The event latch of PART: RESTARTED with cause POWER (R178). -/
  partLatch : Latch := [(1, { count := 1, detail := [1] })]
  /-- The scan pointer of emission (R175). -/
  scan : Owner := .part
  deriving DecidableEq, Repr

/-- The part right after power-on (R193, R178): every store at its power-on value. -/
def State.reset : State := {}

end Sys2Proof.Machine
end

