-- ==== Sys2Proof/Machine/Operands.lean ====
section
/-! DEFINITION. Operand forms: reading values out of payload words and writing values into data words (00_scope.md,
"Words on the link"; R54, R194, R195). -/

namespace Sys2Proof.Machine

/-! ### Values as words -/

/-- A number as one word. -/
def natWord (n : Nat) : Word := BitVec.ofNat 16 n

/-- A flag as one word: 0 no, 1 yes. -/
def flagWord (b : Bool) : Word := if b then 1 else 0

/-- A profile index or absent as one word: 0xFFFF when absent. -/
def profileWord (p : Option (BitVec 6)) : Word :=
  match p with
  | some p => p.setWidth 16
  | none => 0xFFFF

/-- A 32-bit value as two words, high word first. -/
def wordPair (x : BitVec 32) : List Word := [x.extractLsb' 16 16, x.extractLsb' 0 16]

/-- Two words, high word first, as a 32-bit value. -/
def pairValue (hi lo : Word) : BitVec 32 := hi ++ lo

/-! ### Target words -/

/-- A target word that names a context, 0 to 31 (R15). -/
def targetContext (w : Word) : Option (Fin 32) :=
  if h : w.toNat < 32 then some ⟨w.toNat, h⟩ else none

/-- A context index as the context field of a report (R162). -/
def contextByte (i : Fin 32) : Byte := BitVec.ofNat 8 i.val

/-! ### Encodings (R54, R55) -/

/-- The code of an encoding (R54). -/
def Encoding.code : Encoding → BitVec 4
  | .unsigned12 => 0
  | .signed12 => 1
  | .unsigned16 => 2
  | .signed16 => 3
  | .signed24 => 4

/-- R39: the encoding a descriptor's field names; 5 to 15 name none. -/
def Encoding.ofCode (c : BitVec 4) : Option Encoding :=
  [Encoding.unsigned12, .signed12, .unsigned16, .signed16, .signed24].find? (fun e => e.code = c)

/-- R54: the raw integer of one word under a one-word encoding. -/
def rawOfWord (e : Encoding) (w : Word) : Int :=
  match e with
  | .unsigned12 => ((w.extractLsb' 0 12).toNat : Int)
  | .signed12 => (w.extractLsb' 0 12).toInt
  | .unsigned16 => (w.toNat : Int)
  | .signed16 => w.toInt
  | .signed24 => w.toInt

/-- R54: the raw integer of the two words of a SIGNED24 sample, high word first. -/
def rawOfPair (hi lo : Word) : Int := (hi.extractLsb' 0 8 ++ lo).toInt

/-- R54: the raw integers of a SIGNED24 payload, in payload order. -/
def rawPairs : List Word → List Int
  | hi :: lo :: rest => rawOfPair hi lo :: rawPairs rest
  | _ => []

/-- R54: the raw integers of a SAMPLE payload, in payload order. -/
def rawSamples (e : Encoding) (payload : List Word) : List Int :=
  match e with
  | .signed24 => rawPairs payload
  | .unsigned12 => payload.map (rawOfWord e)
  | .signed12 => payload.map (rawOfWord e)
  | .unsigned16 => payload.map (rawOfWord e)
  | .signed16 => payload.map (rawOfWord e)

/-- R55, R101: the payload lengths that fit an encoding. -/
def lengthFits (e : Encoding) (n : Nat) : Bool :=
  match e with
  | .signed24 => 2 ≤ n && n ≤ 32 && n % 2 = 0
  | .unsigned12 => 1 ≤ n && n ≤ 16
  | .signed12 => 1 ≤ n && n ≤ 16
  | .unsigned16 => 1 ≤ n && n ≤ 16
  | .signed16 => 1 ≤ n && n ≤ 16

/-! ### Descriptors (R39, R195) -/

/-- The descriptor word: class, range, encoding and unit (R195). -/
def Descriptor.word (d : Descriptor) : Word :=
  0#1 ++ d.cls ++ d.range ++ d.encoding.code ++ d.unit

/-- What the checks of R39 make of a DESCRIBE payload: a descriptor, or the two detail words of R40. -/
inductive DescribeCheck where
  | valid (d : Descriptor)
  | invalid (code found : Word)
  deriving DecidableEq, Repr

/-- R39: the four checks of a DESCRIBE payload, in their order. -/
def checkDescribe (payload : List Word) : DescribeCheck :=
  match payload with
  | [w, hi, lo, zero] =>
    match Encoding.ofCode (w.extractLsb' 4 4) with
    | none => .invalid 2 ((w.extractLsb' 4 4).setWidth 16)
    | some e =>
      if w.msb then .invalid 3 w
      else if zero ≠ 0 then .invalid 4 zero
      else
        .valid
          { cls := w.extractLsb' 11 4, range := w.extractLsb' 8 3, encoding := e,
            unit := w.extractLsb' 0 4, serial := pairValue hi lo }
  | _ => .invalid 1 (natWord payload.length)

/-- R46: the changed-field set, bit 0 class, 1 range, 2 encoding, 3 unit, 4 serial (R195). -/
def changedFields (old new : Descriptor) : Word :=
  flagWord (old.cls != new.cls) + 2 * flagWord (old.range != new.range)
    + 4 * flagWord (old.encoding != new.encoding) + 8 * flagWord (old.unit != new.unit)
    + 16 * flagWord (old.serial != new.serial)

/-! ### Keys (R1, R96) -/

/-- The Stream Map's index of a key. -/
def Key.index (k : Key) : BitVec 8 := k.node ++ k.channel

/-- The key word of UNBOUND_TRAFFIC: the node in bits 15-8, the channel in bits 2-0 (R96). -/
def Key.word (k : Key) : Word := k.node.setWidth 8 ++ k.channel.setWidth 8

/-! ### State codes and records as data words -/

/-- The state codes of R19. -/
def ContextState.code : ContextState → Word
  | .free => 0
  | .bound => 1
  | .unmapped => 2
  | .active => 3
  | .stale => 4

/-- The outcome codes of R132. -/
def CommandOutcome.code : CommandOutcome → Byte
  | .done => 0
  | .wrongState => 1
  | .badParameter => 2
  | .keyInUse => 3
  | .stagingFull => 4
  | .flushed => 5
  | .aborted => 6
  | .timeout => 7
  | .descChanged => 8
  | .stale => 9
  | .linkDown => 10
  | .spanRange => 11

/-- The stage numbers of a capture in progress (R147). -/
def CaptureStage.code : CaptureStage → Byte
  | .armed => 1
  | .collecting => 2

/-- The source words of a capture report (R155). -/
def CaptureSource.code : CaptureSource → Word
  | .table => 0
  | .staging => 1

/-- The owner word of an EVENT report: 0 to 31, or 255 for PART (R195). -/
def Owner.word : Owner → Word
  | .part => 255
  | .context i => natWord i.val

/-- The eleven counters of a context in the order of R118. -/
def ContextCounters.toList (k : ContextCounters) : List (BitVec 32) :=
  [k.accepted, k.conditioned, k.missed, k.duplicates, k.discarded, k.budgetDrops, k.queueDrops, k.clamped,
    k.malformed, k.descriptors, k.changes]

/-- The 24 port and part counters in the order of R191. -/
def PartCounters.toList (k : PartCounters) : List (BitVec 32) :=
  [k.fieldGood, k.fieldCrc, k.fieldLength, k.fieldHeader, k.fieldStray, k.fieldSent, k.copiesReplaced,
    k.copiesDropped, k.controlGood, k.controlCrc, k.controlLength, k.controlHeader, k.controlStray,
    k.controlSent, k.passDropped, k.cyclesTaken, k.cycleDuplicates, k.cycleSkips, k.cyclesMalformed,
    k.commandsReceived, k.commandsRefused, k.commandDuplicates, k.immediatesTaken, k.commandsAdmitted]

/-- Counters as data words, each two words high word first (R118, R192). -/
def counterWords (l : List (BitVec 32)) : List Word := l.flatMap wordPair

/-- A profile record as the twelve words of R81 from the valid word on (R84); an invalid record and a retirement
read as zeros. -/
def recordWords (r : Option Profile) : List Word :=
  match r with
  | none => List.replicate 12 0
  | some p =>
    [1] ++ wordPair (p.inputOffset.signExtend 32) ++ [p.gain, p.shift.setWidth 16]
      ++ wordPair p.outputOffset ++ wordPair p.clampLow ++ wordPair p.clampHigh ++ [p.unit.setWidth 16]

/-- The 29 words of CONTEXT-READ for a context that is not FREE, or the one word of a FREE one (R22). -/
def contextWords (c : Context) : List Word :=
  if c.state = .free then [0]
  else
    [c.state.code,
      flagWord c.held,
      match c.key with | some k => k.node.setWidth 16 | none => 0,
      match c.key with | some k => k.channel.setWidth 16 | none => 0,
      c.variant.setWidth 16,
      match c.mode with | .auto => 0 | .fixed _ => 1,
      match c.mode with | .auto => 0xFFFF | .fixed p => p.setWidth 16,
      match c.missPolicy with | .drop => 0 | .retain => 1,
      match c.stalePolicy with | .discard => 0 | .forward => 1,
      c.lifetime.setWidth 16,
      c.remaining.setWidth 16,
      c.silenceLimit.setWidth 16,
      c.silenceCount.setWidth 16,
      flagWord c.silentReported,
      profileWord c.activeProfile,
      flagWord c.newProfile,
      match c.tracker with | .resync => 0xFFFF | .expect e => e.setWidth 16,
      c.outputSeq.setWidth 16,
      natWord c.quota,
      natWord c.budget,
      c.reportMask.setWidth 16,
      flagWord c.descriptor.isSome]
    ++ (match c.descriptor with
        | some d =>
          [d.cls.setWidth 16, d.range.setWidth 16, d.encoding.code.setWidth 16, d.unit.setWidth 16]
            ++ wordPair d.serial
        | none => [0, 0, 0, 0, 0, 0])
    ++ [c.epoch.setWidth 16]

/-! ### Frames the part builds (R115, R195) -/

/-- The words of a MEASURE frame (R115, R195). -/
def MeasureFrame.toWords (m : MeasureFrame) : List Word :=
  frameWords kindMeasure 0 31 m.seq m.channel
    ([BitVec.ofNat 5 m.context.val ++ BitVec.ofBool m.stale ++ BitVec.ofBool m.gap ++ BitVec.ofBool m.clamped
        ++ BitVec.ofBool m.newProfile ++ 0#3 ++ m.unit,
      0#2 ++ m.profile ++ m.epoch,
      m.generation]
      ++ m.values.flatMap wordPair)

/-- The payload of a REPORT frame (R195). -/
def Report.payload (r : Report) : List Word :=
  match r.body with
  | .completion tag code outcome stage context data =>
    [r.seq, 0, code ++ tag, outcome.code ++ stage, context.setWidth 16] ++ data
  | .event owner kind count detail =>
    [r.seq, 1, owner.word, kind.setWidth 8 ++ count] ++ detail

/-- The words of a REPORT frame: destination 0, source 31, channel 0, and the low 8 bits of the report sequence as
the header sequence (R161, R195). -/
def Report.toWords (r : Report) : List Word :=
  frameWords kindReport 0 31 (r.seq.setWidth 8) 0 r.payload

/-- The words of the copy of a CYCLE frame: destination 30, source 31, channel 0, and the low 8 bits of the number as
the header sequence (R30). -/
def cycleCopyWords (n : Word) : List Word :=
  frameWords kindCycle 30 31 (n.setWidth 8) 0 [n]

end Sys2Proof.Machine
end

