-- ==== Sys2Proof/Machine/Flags.lean ====
section
/-! DEFINITION. Saturating counts and the event latches, the part's status flags (00_scope.md "Counters"; R172). -/

namespace Sys2Proof.Machine

/-- Add to a count that stays at its largest value (00_scope.md "Counters"). -/
def satAdd {w : Nat} (x : BitVec w) (n : Nat) : BitVec w :=
  if x.toNat + n < 2 ^ w then x + BitVec.ofNat w n else BitVec.allOnes w

/-! ### Sparse stores -/

/-- The entry of a key. -/
def Table.get {w : Nat} {α : Type} (k : BitVec w) : Table w α → Option α
  | [] => none
  | (k', v) :: rest => if k' = k then some v else Table.get k rest

/-- Make the entry of a key present, keeping the keys rising. -/
def Table.put {w : Nat} {α : Type} (k : BitVec w) (v : α) : Table w α → Table w α
  | [] => [(k, v)]
  | (k', v') :: rest =>
    if k' = k then (k, v) :: rest
    else if k < k' then (k, v) :: (k', v') :: rest
    else (k', v') :: Table.put k v rest

/-- Make the entry of a key absent. -/
def Table.erase {w : Nat} {α : Type} (k : BitVec w) : Table w α → Table w α
  | [] => []
  | (k', v) :: rest => if k' = k then Table.erase k rest else (k', v) :: Table.erase k rest

/-! ### Event latches (R172) -/

/-- How a pending entry's detail takes a further occurrence (R172, section 9.7). -/
inductive Coalescing where
  /-- The whole detail is replaced. -/
  | latest
  /-- The first word adds, the others take the latest value. -/
  | addFirst
  /-- Every word adds. -/
  | addAll
  deriving DecidableEq, Repr

/-- R172: which context kinds accumulate. -/
def ContextKind.coalescing : ContextKind → Coalescing
  | .descNew => .latest
  | .descChanged => .latest
  | .descInvalid => .latest
  | .descStale => .latest
  | .selectMiss => .latest
  | .profileRetired => .latest
  | .gap => .addFirst
  | .silent => .latest
  | .overBudget => .addFirst
  | .queueOverflow => .addAll
  | .discarding => .addAll
  | .sampleMalformed => .latest

/-- R172: which part kinds accumulate. -/
def PartKind.coalescing : PartKind → Coalescing
  | .restarted => .latest
  | .controlRestart => .latest
  | .fieldDown => .latest
  | .fieldUp => .latest
  | .cycleSkip => .latest
  | .unboundTraffic => .latest
  | .passDrop => .addAll
  | .refusals => .latest
  | .ackInvalid => .latest

/-- The detail of a pending entry after a further occurrence, each counting word saturating at 65535 (R172). -/
def coalesce (how : Coalescing) (old new : List Word) : List Word :=
  match how with
  | .latest => new
  | .addFirst =>
    match old, new with
    | o :: _, n :: rest => satAdd o n.toNat :: rest
    | [], _ => new
    | _, [] => new
  | .addAll => List.zipWith (fun o n => satAdd o n.toNat) old new

/-- R172: latch an occurrence: a new entry with count 1, or the pending entry's count and detail moved on. -/
def latchAdd (code : BitVec 4) (how : Coalescing) (detail : List Word) (l : Latch) : Latch :=
  match Table.get code l with
  | none => Table.put code { count := 1, detail := detail } l
  | some e => Table.put code { count := satAdd e.count 1, detail := coalesce how e.detail detail } l

/-- R11: the kind is in the context's report mask (bit k-1 for kind k). -/
def Context.admits (c : Context) (k : ContextKind) : Bool :=
  c.reportMask.getLsbD (k.code.toNat - 1)

/-- R172: latch a kind for a context, through its report mask. -/
def Context.latchKind (k : ContextKind) (detail : List Word) (c : Context) : Context :=
  if c.admits k then { c with latch := latchAdd k.code k.coalescing detail c.latch } else c

/-- R172: latch a kind for the PART owner. -/
def latchPart (k : PartKind) (detail : List Word) (s : State) : State :=
  { s with partLatch := latchAdd k.code k.coalescing detail s.partLatch }

/-! ### Counters -/

/-- Change the counters of a context. -/
def Context.count (f : ContextCounters → ContextCounters) (c : Context) : Context :=
  { c with counters := f c.counters }

/-- Change the port and part counters. -/
def countPart (f : PartCounters → PartCounters) (s : State) : State :=
  { s with part := f s.part }

/-- R181: the counter of a frame discarded at a port. -/
def countFrameError (p : Port) (e : FrameError) (s : State) : State :=
  countPart
    (fun k =>
      match p, e with
      | .field, .length => { k with fieldLength := satAdd k.fieldLength 1 }
      | .field, .crc => { k with fieldCrc := satAdd k.fieldCrc 1 }
      | .field, .header => { k with fieldHeader := satAdd k.fieldHeader 1 }
      | .field, .stray => { k with fieldStray := satAdd k.fieldStray 1 }
      | .control, .length => { k with controlLength := satAdd k.controlLength 1 }
      | .control, .crc => { k with controlCrc := satAdd k.controlCrc 1 }
      | .control, .header => { k with controlHeader := satAdd k.controlHeader 1 }
      | .control, .stray => { k with controlStray := satAdd k.controlStray 1 })
    s

/-- R181: the counter of good frames of a port. -/
def countGood (p : Port) (s : State) : State :=
  countPart
    (fun k =>
      match p with
      | .field => { k with fieldGood := satAdd k.fieldGood 1 }
      | .control => { k with controlGood := satAdd k.controlGood 1 })
    s

/-- R187: the counter of frames transmitted of a port. -/
def countSent (p : Port) (s : State) : State :=
  countPart
    (fun k =>
      match p with
      | .field => { k with fieldSent := satAdd k.fieldSent 1 }
      | .control => { k with controlSent := satAdd k.controlSent 1 })
    s

end Sys2Proof.Machine
end

