-- ==== Sys2Proof/Machine/Ops.lean ====
section
/-! DEFINITION. The named operations over the part's stores: links, contexts, the Report Queue and the two
transmitters. -/

namespace Sys2Proof.Machine

/-! ### Links (R180, R193) -/

/-- The link of a port. -/
def State.link (s : State) (p : Port) : Link :=
  match p with
  | .field => s.fieldLink
  | .control => s.controlLink

/-- Set the link of a port. -/
def State.setLink (p : Port) (l : Link) (s : State) : State :=
  match p with
  | .field => { s with fieldLink := l }
  | .control => { s with controlLink := l }

/-- The link is UP as the part stands: while RESET_N is held low both links are DOWN (R193). -/
def State.linkUp (s : State) (p : Port) : Bool := !s.resetHeld && (s.link p).up

/-- R193: while RESET_N is held low the part takes no event but its release. -/
def State.live (f : State → State) (s : State) : State := if s.resetHeld then s else f s

/-! ### Contexts -/

/-- The record of a context. -/
def State.context (s : State) (i : Fin 32) : Context := s.contexts[i]

/-- Set the record of a context. -/
def State.setContext (i : Fin 32) (c : Context) (s : State) : State :=
  { s with contexts := s.contexts.set i c }

/-- The 32 records, each given by its index. -/
@[irreducible] def contextTable (f : Fin 32 → Context) : Vector Context 32 := Vector.ofFn f

/-- Change every context record, each on its own. -/
def State.mapContexts (f : Context → Context) (s : State) : State :=
  { s with contexts := contextTable fun i => f (s.context i) }

/-- How many contexts satisfy a test. -/
def State.countContexts (s : State) (f : Context → Bool) : Nat := s.contexts.toList.countP f

/-! ### The Stream Map (R1) -/

/-- R1: the context a key resolves to. -/
def State.resolve (s : State) (k : Key) : Option (Fin 32) := Table.get k.index s.streamMap

/-! ### The Profile Table and the Staging Area (R76, R80) -/

/-- R76: a record is valid. -/
def validProfile (t : Table 6 Profile) (p : BitVec 6) : Bool := (Table.get p t).isSome

/-- R80: the staged record of a target: none when the target is not staged. -/
def stagedRecord (p : BitVec 6) (l : List Staged) : Option (Option Profile) :=
  (l.find? (fun e => e.target = p)).map Staged.record

/-- R80: a staged record of the same target is replaced in its place; a new target is appended at the end. -/
def stageRecord (e : Staged) (l : List Staged) : List Staged :=
  if l.any (fun x => x.target = e.target) then
    l.map (fun x => if x.target = e.target then e else x)
  else l ++ [e]

/-- R81, R154: the Staging Area has a place for a target. -/
def stagingRoom (p : BitVec 6) (l : List Staged) : Bool :=
  l.any (fun x => x.target = p) || l.length < 8

/-! ### The Report Queue (R160, R161) -/

/-- R161: a report takes the next report sequence and joins the end of the queue, UNSENT. -/
def queueReport (b : ReportBody) (s : State) : State :=
  { s with
    reports := s.reports ++ [{ seq := s.nextReportSeq, sent := false, body := b }]
    nextReportSeq := s.nextReportSeq + 1 }

/-- R123, R174: Report Queue entries plus reservations. -/
def State.reportLoad (s : State) : Nat := s.reports.length + s.reservations

/-- R131: commands that act on a context, whose reports carry it. -/
def actsOnContext : QueuedCode → Bool
  | .nop => false
  | .bind => true
  | .unbind => true
  | .setContext => true
  | .hold => true
  | .resume => true
  | .reselect => true
  | .contextRead => true
  | .countersRead => true
  | .mapWrite => false
  | .mapRead => false
  | .profileStage => false
  | .profileDiscard => false
  | .profileCommit => false
  | .profileRead => false
  | .setPart => false
  | .capture => true

/-- R131: the context field of a command's final report: its target when the command acts on a context and the
target lies from 0 to 31, and 255 otherwise. -/
def Command.contextField (c : Command) : Byte :=
  match targetContext c.target with
  | some i => if actsOnContext c.code then contextByte i else 255
  | none => 255

/-- R129, R131: queue a command's final report from its reservation. -/
def queueFinal (c : Command) (outcome : CommandOutcome) (stage : Byte) (data : List Word) (s : State) : State :=
  queueReport (.completion c.tag c.code.toByte outcome stage c.contextField data)
    { s with reservations := s.reservations - 1 }

/-- R165: some report is SENT. -/
def anySent (l : List Report) : Bool := l.any Report.sent

/-- R168, R171: every SENT report becomes UNSENT. -/
def unsendAll (l : List Report) : List Report := l.map (fun r => { r with sent := false })

/-- R164: the oldest UNSENT report becomes SENT. -/
def sendOldest : List Report → List Report
  | [] => []
  | r :: rest => if r.sent then r :: sendOldest rest else { r with sent := true } :: rest

/-! ### The control transmitter (R185, R186) -/

/-- R185: the Transmit Arbiter's choice when the transmitter is idle and the control link is UP; R164 and R167 for a
report, R186 for the count, R111 and R183 for the frame leaving its queue. -/
def arbitrate (s : State) : State :=
  if s.controlTx.isSome || !s.linkUp .control then s
  else
    match (if s.path = .running then s.reports.find? (fun r => !r.sent) else none) with
    | some r =>
      { s with
        reports := sendOldest s.reports
        retryTimer := some (s.retryTimer.getD s.retryInterval)
        controlTx := some (.report r.toWords) }
    | none =>
      match s.upQueue, s.measureQueue with
      | p :: rest, [] =>
        { s with upQueue := rest, measuresSincePass := 0, controlTx := some (.pass p) }
      | p :: rest, m :: ms =>
        if s.measuresSincePass = 4 then
          { s with upQueue := rest, measuresSincePass := 0, controlTx := some (.pass p) }
        else
          { s with
            measureQueue := ms
            measuresSincePass := min 4 (s.measuresSincePass + 1)
            controlTx := some (.measure m.toWords) }
      | [], m :: ms =>
        { s with
          measureQueue := ms
          measuresSincePass := min 4 (s.measuresSincePass + 1)
          controlTx := some (.measure m.toWords) }
      | [], [] => s

/-! ### The field transmitter (R184) -/

/-- R184: the field transmitter's choice when it is idle and the field link is UP: the cycle copy in the slot, else
the head of the Downstream Pass Queue. -/
def fieldChoose (s : State) : State :=
  if s.fieldTx.isSome || !s.linkUp .field then s
  else
    match s.cycleSlot with
    | some n => { s with cycleSlot := none, fieldTx := some (.cycleCopy n) }
    | none =>
      match s.downQueue with
      | p :: rest => { s with downQueue := rest, fieldTx := some (.pass p) }
      | [] => s

/-- The words on the line of the frame the field transmitter is sending (R30, R183). -/
def FieldTx.toWords : FieldTx → List Word
  | .cycleCopy n => cycleCopyWords n
  | .pass ws => ws

end Sys2Proof.Machine
end

