-- ==== Sys2Proof/Machine/Selection.lean ====
section
/-! DEFINITION. The Profile Selector: key index, the selection run, and runs over several contexts (chapter 4). -/

namespace Sys2Proof.Machine

/-- R59: the key index, class × 16 + range × 2 + variant. -/
def keyIndex (d : Descriptor) (variant : BitVec 1) : BitVec 8 := d.cls ++ d.range ++ variant

/-- R64: the state a run or a leaving of STALE settles on outside STALE. -/
def settledState (active : Option (BitVec 6)) : ContextState :=
  if active.isSome then .active else .unmapped

/-- R64, R65: a run's choice: the active profile, the new-profile flag when the profile is present and different, and
the state, STALE staying STALE. -/
def Context.chooseProfile (chosen : Option (BitVec 6)) (c : Context) : Context :=
  { c with
    activeProfile := chosen
    newProfile := c.newProfile || (chosen.isSome && chosen != c.activeProfile)
    state := if c.state = .stale then .stale else settledState chosen }

/-- R61: the profile an AUTO run hits: the entry's, when its record is valid. -/
def mapHit (map : Table 8 (BitVec 6)) (profiles : Table 6 Profile) (k : BitVec 8) : Option (BitVec 6) :=
  (Table.get k map).filter (validProfile profiles)

/-- R62: the profile an AUTO run leaves when it misses. -/
def Context.afterMiss (profiles : Table 6 Profile) (c : Context) : Option (BitVec 6) :=
  match c.missPolicy with
  | .drop => none
  | .retain => c.activeProfile.filter (validProfile profiles)

/-- R61, R62, R66: an AUTO run of a context with a descriptor. -/
def Context.autoRun (map : Table 8 (BitVec 6)) (profiles : Table 6 Profile) (d : Descriptor)
    (c : Context) : Context :=
  let k := keyIndex d c.variant
  match mapHit map profiles k with
  | some p => c.chooseProfile (some p)
  | none =>
    let left := c.afterMiss profiles
    (c.latchKind .selectMiss [k.setWidth 16, profileWord (Table.get k map), profileWord left]).chooseProfile left

/-- R63: a FIXED run. -/
def Context.fixedRun (profiles : Table 6 Profile) (p : BitVec 6) (c : Context) : Context :=
  c.chooseProfile (if validProfile profiles p then some p else none)

/-- R60: a selection run; a context without a descriptor gets none. -/
def Context.selectionRun (map : Table 8 (BitVec 6)) (profiles : Table 6 Profile) (c : Context) : Context :=
  match c.descriptor with
  | none => c
  | some d =>
    match c.mode with
    | .auto => c.autoRun map profiles d
    | .fixed p => c.fixedRun profiles p

/-- R70, R73: the run of this context would be an AUTO run that misses. -/
def Context.runMisses (map : Table 8 (BitVec 6)) (profiles : Table 6 Profile) (c : Context) : Bool :=
  match c.descriptor, c.mode with
  | some d, .auto => (mapHit map profiles (keyIndex d c.variant)).isNone
  | some _, .fixed _ => false
  | none, _ => false

/-- R73: the contexts a RESELECT of all runs: AUTO and holding a descriptor. -/
def Context.autoWithDescriptor (c : Context) : Bool := c.mode = .auto && c.descriptor.isSome

/-- R69: the contexts a MAP-WRITE with the reselect option runs: those of R73 whose key index lies in the range. -/
def Context.inWrittenRange (start count : Nat) (c : Context) : Bool :=
  match c.descriptor with
  | some d =>
    c.mode = .auto && start ≤ (keyIndex d c.variant).toNat && (keyIndex d c.variant).toNat < start + count
  | none => false

/-- R69, R73: one run for every context that qualifies, each on its own record. -/
def runContexts (qualifies : Context → Bool) (s : State) : State :=
  s.mapContexts fun c => if qualifies c then c.selectionRun s.selectionMap s.profiles else c

/-- R70, R73: the contexts run, those whose run left a different active profile, and those whose run missed. -/
def runCounts (qualifies : Context → Bool) (s : State) : List Word :=
  [natWord (s.countContexts qualifies),
    natWord
      (s.countContexts fun c =>
        qualifies c && (c.selectionRun s.selectionMap s.profiles).activeProfile != c.activeProfile),
    natWord (s.countContexts fun c => qualifies c && c.runMisses s.selectionMap s.profiles)]

/-- R69: entry start + i receives entry word i; 0xFFFF is EMPTY. -/
def writeEntries (start : Nat) : List Word → Table 8 (BitVec 6) → Table 8 (BitVec 6)
  | [], t => t
  | w :: rest, t =>
    let k := BitVec.ofNat 8 start
    writeEntries (start + 1) rest (if w = 0xFFFF then Table.erase k t else Table.put k (w.setWidth 6) t)

/-- R71: the entries from start on, as data words. -/
def readEntries (start : Nat) : Nat → Table 8 (BitVec 6) → List Word
  | 0, _ => []
  | n + 1, t => profileWord (Table.get (BitVec.ofNat 8 start) t) :: readEntries (start + 1) n t

end Sys2Proof.Machine
end

