-- ==== Sys2Proof/Machine/Profiles.lean ====
section
/-! DEFINITION. The Profile Table: conversion, the application of the Staging Area, and the repair of contexts
(chapter 5). -/

namespace Sys2Proof.Machine

/-- R77, steps 1 to 3, over the integers: the unclamped value. The divisor is positive, so the quotient rounds towards
minus infinity. -/
def Profile.unclamped (p : Profile) (x : Int) : Int :=
  ((x - p.inputOffset.toInt) * p.gain.toInt) / (2 ^ p.shift.toNat : Int) + p.outputOffset.toInt

/-- R78: the sample's unclamped value lies outside the clamp limits. -/
def Profile.clampsAt (p : Profile) (x : Int) : Bool :=
  p.unclamped x < p.clampLow.toInt || p.clampHigh.toInt < p.unclamped x

/-- R77, step 4: the delivered value. -/
def Profile.deliver (p : Profile) (x : Int) : BitVec 32 :=
  let v := p.unclamped x
  if v < p.clampLow.toInt then p.clampLow
  else if p.clampHigh.toInt < v then p.clampHigh
  else BitVec.ofInt 32 v

/-- R86: every staged record replaces the record of its target; a retirement makes it invalid. -/
def applyStaged (staging : List Staged) (t : Table 6 Profile) : Table 6 Profile :=
  staging.foldl
    (fun t e =>
      match e.record with
      | some r => Table.put e.target r t
      | none => Table.erase e.target t)
    t

/-- R87: the commit retires a profile: valid before, and a retirement record for it is applied. -/
def retires (before : Table 6 Profile) (staging : List Staged) (p : BitVec 6) : Bool :=
  validProfile before p && staging.any (fun e => e.target = p && e.record.isNone)

/-- What the repair does with one context (R87, R88): its record, and whether it lost a retired profile and whether
the repair gave it one. -/
structure Repair where
  context : Context
  lost : Bool
  gained : Bool
  deriving DecidableEq, Repr

/-- R87: take a retired profile; STALE stays STALE, ACTIVE becomes UNMAPPED. -/
def Context.loseProfile (c : Context) : Context :=
  { c with activeProfile := none, state := if c.state = .active then .unmapped else c.state }

/-- R88: a FIXED context with a descriptor and no active profile takes its profile when the record is valid. -/
def Context.giveFixed (after : Table 6 Profile) (p : BitVec 6) (c : Context) : Context :=
  if c.descriptor.isSome && c.activeProfile.isNone && validProfile after p then c.chooseProfile (some p) else c

/-- R87, R88, R90: the repair of one context. -/
def repairContext (map : Table 8 (BitVec 6)) (before after : Table 6 Profile) (staging : List Staged)
    (generation : Word) (c : Context) : Repair :=
  match c.activeProfile with
  | some p =>
    if retires before staging p then
      let settled :=
        match c.mode with
        | .auto => c.loseProfile.selectionRun map after
        | .fixed q => c.loseProfile.giveFixed after q
      { context :=
          settled.latchKind .profileRetired
            [p.setWidth 16, generation, profileWord settled.activeProfile]
        lost := true
        gained := settled.activeProfile.isSome }
    else { context := c, lost := false, gained := false }
  | none =>
    let settled :=
      match c.mode with
      | .auto => if c.state = .unmapped then c.selectionRun map after else c
      | .fixed q => c.giveFixed after q
    { context := settled, lost := false, gained := settled.activeProfile.isSome }

end Sys2Proof.Machine
end

