-- ==== Sys2Proof/Machine/Capture.lean ====
section
/-! DEFINITION. The Capture Unit's own work: collecting, the mean, the computed record and the report's data
(chapter 8). -/

namespace Sys2Proof.Machine

/-- R146: the place the source of a capture on profile p comes from. -/
def captureSource (p : BitVec 6) (s : State) : CaptureSource :=
  if (stagedRecord p s.staging).isSome then .staging else .table

/-- R146: the source record; none when it is invalid or a retirement. -/
def sourceRecord (src : CaptureSource) (p : BitVec 6) (s : State) : Option Profile :=
  match src with
  | .staging => (stagedRecord p s.staging).join
  | .table => Table.get p s.profiles

/-- R150: collect a frame's samples in payload order until the count reaches N, and count its gap once. -/
def Capture.collect (raws : List Int) (gap : Bool) (k : Capture) : Capture :=
  let taken := raws.take (k.n - k.count)
  { k with
    sum := k.sum + taken.sum
    count := k.count + taken.length
    gaps := k.gaps + (if gap then 1 else 0) }

/-- R152: the sum divided by N, rounded to the nearest integer, a half upward. -/
def Capture.mean (k : Capture) : Int := (2 * k.sum + k.n) / (2 * k.n)

/-- R153: a / b rounded to the nearest integer, a half away from zero; b is not 0. -/
def roundedQuotient (a b : Int) : Int :=
  let magnitude : Int := ((2 * a.natAbs + b.natAbs) / (2 * b.natAbs) : Nat)
  if (a < 0) != (b < 0) then -magnitude else magnitude

/-- R153: the gain of a SPAN capture; none when b is 0 or the gain is outside a signed 16-bit value. -/
def spanGain (source : Profile) (reference : BitVec 32) (mean : Int) : Option Int :=
  let a := (reference.toInt - source.outputOffset.toInt) * (2 ^ source.shift.toNat : Int)
  let b := mean - source.inputOffset.toInt
  if b = 0 then none
  else
    let g := roundedQuotient a b
    if -32768 ≤ g && g ≤ 32767 then some g else none

/-- R152, R153: the computed field and the result record: the source with one field replaced; none for SPAN_RANGE. -/
def Capture.result (source : Profile) (k : Capture) : Option (Int × Profile) :=
  match k.mode with
  | .zero => some (k.mean, { source with inputOffset := BitVec.ofInt 24 k.mean })
  | .span =>
    (spanGain source k.reference k.mean).map fun g => (g, { source with gain := BitVec.ofInt 16 g })

/-- R155: the ten data words of a capture's final report. -/
def Capture.data (k : Capture) (mean field : Int) (staged : Nat) : List Word :=
  wordPair (BitVec.ofInt 32 mean)
    ++ [natWord k.count, natWord k.gaps, natWord k.cycles, k.epoch.setWidth 16, k.source.code]
    ++ wordPair (BitVec.ofInt 32 field) ++ [natWord staged]

/-- How the completion of the collection ends (R152, R153, R154). -/
structure CaptureEnding where
  outcome : CommandOutcome
  stage : Byte
  field : Int
  staging : List Staged
  deriving DecidableEq, Repr

/-- R152 to R154: from stage 3 on, within the event that brings the count to N. The source found invalid cannot
arise (R146); it is given the outcome of that check (log entry 14). -/
def Capture.complete (s : State) (k : Capture) : CaptureEnding :=
  match sourceRecord k.source k.profile s with
  | none => { outcome := .wrongState, stage := 3, field := 0, staging := s.staging }
  | some source =>
    match k.result source with
    | none => { outcome := .spanRange, stage := 3, field := 0, staging := s.staging }
    | some (field, record) =>
      if stagingRoom k.profile s.staging then
        { outcome := .done, stage := 4, field := field,
          staging := stageRecord { target := k.profile, record := some record } s.staging }
      else { outcome := .stagingFull, stage := 3, field := field, staging := s.staging }

end Sys2Proof.Machine
end

