-- ==== Sys2Proof/Machine/HeadCommands.lean ====
section
/-! DEFINITION. The queued commands taken at the head of the Command Queue: each is judged and carried out in one
event (R15, R130, section 7.7). -/

namespace Sys2Proof.Machine

/-- What taking a command at the head does (R130): it ends with an outcome and data words at stage 0, or it stays as
the executing command. -/
inductive HeadResult where
  | ends (outcome : CommandOutcome) (data : List Word) (s : State)
  | stays (s : State)

/-- A command that fails a check changes nothing (R15, R130). -/
def failHead (o : CommandOutcome) (s : State) : HeadResult := .ends o [] s

/-! ### Context commands (chapter 1) -/

/-- R16: the ranges of BIND's five parameter words; the fixed profile is checked only in FIXED mode. -/
def bindParamsOk (node channel variant mode fixed : Word) : Bool :=
  1 ≤ node.toNat && node.toNat ≤ 29 && channel.toNat ≤ 7 && variant.toNat ≤ 1 && mode.toNat ≤ 1
    && (mode = 0 || fixed.toNat ≤ 63)

/-- The selection mode of a mode word and a fixed-profile word (R16, R18). -/
def modeOf (mode fixed : Word) : SelectionMode := if mode = 0 then .auto else .fixed (fixed.setWidth 6)

/-- R16: the record BIND leaves: the key, variant and mode of the command, every other field at its BIND value. The
latch of a FREE context is empty (R13) and is not BIND's to change. -/
def Context.bound (k : Key) (variant : BitVec 1) (mode : SelectionMode) (c : Context) : Context :=
  { Context.free with state := .bound, key := some k, variant := variant, mode := mode, latch := c.latch }

/-- R16: BIND. -/
def takeBind (cmd : Command) (s : State) : HeadResult :=
  match targetContext cmd.target with
  | none => failHead .badParameter s
  | some i =>
    match cmd.params with
    | [node, channel, variant, mode, fixed] =>
      let key : Key := { node := node.setWidth 5, channel := channel.setWidth 3 }
      if !bindParamsOk node channel variant mode fixed then failHead .badParameter s
      else if (s.context i).state ≠ .free then failHead .wrongState s
      else if (s.resolve key).isSome then failHead .keyInUse s
      else
        .ends .done []
          (State.setContext i ((s.context i).bound key (variant.setWidth 1) (modeOf mode fixed))
            { s with streamMap := Table.put key.index i s.streamMap })
    | _ => failHead .badParameter s

/-- R17: UNBIND. -/
def takeUnbind (cmd : Command) (s : State) : HeadResult :=
  match targetContext cmd.target with
  | none => failHead .badParameter s
  | some i =>
    if (s.context i).state = .free then failHead .wrongState s
    else
      .ends .done []
        (State.setContext i Context.free
          { s with
            streamMap :=
              match (s.context i).key with
              | some k => Table.erase k.index s.streamMap
              | none => s.streamMap })

/-- The ten parameter words of SET-CONTEXT (R18). -/
structure SetContextWords where
  select : Word
  lifetime : Word
  silenceLimit : Word
  quota : Word
  stalePolicy : Word
  missPolicy : Word
  mask : Word
  mode : Word
  fixed : Word
  variant : Word
  deriving DecidableEq, Repr

/-- R18: the field-select word names group n. -/
def SetContextWords.selects (w : SetContextWords) (n : Nat) : Bool := w.select.getLsbD n

/-- R18: the checks of the select word and of the values of the selected groups. -/
def SetContextWords.ok (w : SetContextWords) : Bool :=
  w.select ≠ 0 && w.select.toNat < 256
    && (!w.selects 0 || w.lifetime.toNat ≤ 15)
    && (!w.selects 1 || w.silenceLimit.toNat ≤ 15)
    && (!w.selects 2 || w.quota.toNat ≤ 64)
    && (!w.selects 3 || w.stalePolicy.toNat ≤ 1)
    && (!w.selects 4 || w.missPolicy.toNat ≤ 1)
    && (!w.selects 5 || w.mask.toNat < 4096)
    && (!w.selects 6 || (w.mode.toNat ≤ 1 && (w.mode = 0 || w.fixed.toNat ≤ 63)))
    && (!w.selects 7 || w.variant.toNat ≤ 1)

/-- R53: remaining after a SET-CONTEXT of the lifetime. -/
def Context.remainingUnder (l : BitVec 4) (c : Context) : BitVec 4 :=
  if c.descriptor.isNone || c.state = .stale then 0
  else if c.lifetime = 0 && l ≠ 0 then l
  else if c.remaining < l then c.remaining
  else l

/-- R19: the record with every selected group stored, before any selection run. -/
def SetContextWords.store (w : SetContextWords) (c : Context) : Context :=
  { c with
    lifetime := if w.selects 0 then w.lifetime.setWidth 4 else c.lifetime
    remaining := if w.selects 0 then c.remainingUnder (w.lifetime.setWidth 4) else c.remaining
    silenceLimit := if w.selects 1 then w.silenceLimit.setWidth 4 else c.silenceLimit
    silenceCount := if w.selects 1 then 0 else c.silenceCount
    silentReported := if w.selects 1 then false else c.silentReported
    quota := if w.selects 2 then w.quota.toNat else c.quota
    budget := if w.selects 2 then w.quota.toNat else c.budget
    stalePolicy := if w.selects 3 then (if w.stalePolicy = 0 then .discard else .forward) else c.stalePolicy
    missPolicy := if w.selects 4 then (if w.missPolicy = 0 then .drop else .retain) else c.missPolicy
    reportMask := if w.selects 5 then w.mask.setWidth 12 else c.reportMask
    mode := if w.selects 6 then modeOf w.mode w.fixed else c.mode
    variant := if w.selects 7 then w.variant.setWidth 1 else c.variant }

/-- R19: the record after SET-CONTEXT: stored, and run when the mode or the variant differs from before and there is a
descriptor. -/
def SetContextWords.apply (w : SetContextWords) (map : Table 8 (BitVec 6)) (profiles : Table 6 Profile)
    (c : Context) : Context :=
  let c' := w.store c
  if c'.mode ≠ c.mode || c'.variant ≠ c.variant then c'.selectionRun map profiles else c'

/-- R19, R72: the two data words: the state and the active profile. -/
def stateWords (c : Context) : List Word := [c.state.code, profileWord c.activeProfile]

/-- R18, R19: SET-CONTEXT. -/
def takeSetContext (cmd : Command) (s : State) : HeadResult :=
  match targetContext cmd.target with
  | none => failHead .badParameter s
  | some i =>
    match cmd.params with
    | [select, lifetime, silenceLimit, quota, stalePolicy, missPolicy, mask, mode, fixed, variant] =>
      let w : SetContextWords :=
        { select, lifetime, silenceLimit, quota, stalePolicy, missPolicy, mask, mode, fixed, variant }
      if !w.ok then failHead .badParameter s
      else if (s.context i).state = .free then failHead .wrongState s
      else
        let c := w.apply s.selectionMap s.profiles (s.context i)
        .ends .done (stateWords c) (State.setContext i c s)
    | _ => failHead .badParameter s

/-- R20: HOLD. -/
def takeHold (cmd : Command) (s : State) : HeadResult :=
  match targetContext cmd.target with
  | none => failHead .badParameter s
  | some i =>
    let c := s.context i
    if c.state = .free || c.held then failHead .wrongState s
    else .ends .done [] (State.setContext i { c with held := true } s)

/-- R21: RESUME. -/
def takeResume (cmd : Command) (s : State) : HeadResult :=
  match targetContext cmd.target with
  | none => failHead .badParameter s
  | some i =>
    let c := s.context i
    if !c.held then failHead .wrongState s
    else .ends .done [] (State.setContext i { c with held := false } s)

/-- R72: RESELECT of one context. -/
def reselectOne (i : Fin 32) (s : State) : HeadResult :=
  let c := s.context i
  if c.state = .free || c.mode ≠ .auto then failHead .wrongState s
  else
    let c' := c.selectionRun s.selectionMap s.profiles
    .ends .done (stateWords c') (State.setContext i c' s)

/-- R73: RESELECT with target 255. -/
def reselectEvery (s : State) : HeadResult :=
  .ends .done (runCounts Context.autoWithDescriptor s) (runContexts Context.autoWithDescriptor s)

/-- R72, R73: RESELECT. -/
def takeReselect (cmd : Command) (s : State) : HeadResult :=
  match targetContext cmd.target with
  | some i => reselectOne i s
  | none => if cmd.target = 255 then reselectEvery s else failHead .badParameter s

/-- R22: CONTEXT-READ. -/
def takeContextRead (cmd : Command) (s : State) : HeadResult :=
  match targetContext cmd.target with
  | none => failHead .badParameter s
  | some i => .ends .done (contextWords (s.context i)) s

/-! ### COUNTERS-READ (R117, R118, R192) -/

/-- R118: COUNTERS-READ of a context. -/
def countersReadOne (i : Fin 32) (clear : Word) (s : State) : HeadResult :=
  let c := s.context i
  if 1 < clear.toNat then failHead .badParameter s
  else if c.state = .free then failHead .wrongState s
  else
    .ends .done (counterWords c.counters.toList)
      (if clear = 1 then State.setContext i { c with counters := {} } s else s)

/-- R192: COUNTERS-READ with target 255. -/
def countersReadAll (clear : Word) (s : State) : HeadResult :=
  if 1 < clear.toNat then failHead .badParameter s
  else .ends .done (counterWords s.part.toList) (if clear = 1 then { s with part := {} } else s)

/-- R117: COUNTERS-READ. -/
def takeCountersRead (cmd : Command) (s : State) : HeadResult :=
  match cmd.params with
  | [clear] =>
    match targetContext cmd.target with
    | some i => countersReadOne i clear s
    | none => if cmd.target = 255 then countersReadAll clear s else failHead .badParameter s
  | _ => failHead .badParameter s

/-! ### The Selection Map (chapter 4) -/

/-- R68, R71: start and count: 1 to 32 entries that lie within the map. -/
def mapRangeOk (start count : Word) : Bool :=
  1 ≤ count.toNat && count.toNat ≤ 32 && start.toNat ≤ 255 && start.toNat + count.toNat ≤ 256

/-- R68: an entry word is a profile index or 0xFFFF for EMPTY. -/
def entryOk (w : Word) : Bool := w.toNat ≤ 63 || w = 0xFFFF

/-- R68, R69, R70: MAP-WRITE: the entries, then the runs. -/
def takeMapWrite (cmd : Command) (s : State) : HeadResult :=
  match cmd.params with
  | start :: count :: rest =>
    let entries := rest.dropLast
    match rest.getLast? with
    | none => failHead .badParameter s
    | some option =>
      if cmd.target ≠ 255 || !mapRangeOk start count || entries.length ≠ count.toNat
          || !entries.all entryOk || 1 < option.toNat then
        failHead .badParameter s
      else
        let written := { s with selectionMap := writeEntries start.toNat entries s.selectionMap }
        let qualifies := Context.inWrittenRange start.toNat count.toNat
        if option = 1 then
          .ends .done (count :: runCounts qualifies written) (runContexts qualifies written)
        else .ends .done [count, 0, 0, 0] written
  | _ => failHead .badParameter s

/-- R71: MAP-READ. -/
def takeMapRead (cmd : Command) (s : State) : HeadResult :=
  match cmd.params with
  | [start, count] =>
    if cmd.target ≠ 255 || !mapRangeOk start count then failHead .badParameter s
    else .ends .done (readEntries start.toNat count.toNat s.selectionMap) s
  | _ => failHead .badParameter s

/-! ### The Staging Area and the commit (chapter 5) -/

/-- R81: the values of a valid record that can fail, and the record they spell. -/
def stageValues (inHi inLo gain shift outHi outLo lowHi lowLo highHi highLo unit : Word) : Option Profile :=
  let offset := pairValue inHi inLo
  let low := pairValue lowHi lowLo
  let high := pairValue highHi highLo
  if -8388608 ≤ offset.toInt && offset.toInt ≤ 8388607 && shift.toNat ≤ 15 && unit.toNat ≤ 15
      && low.toInt ≤ high.toInt then
    some
      { inputOffset := offset.setWidth 24, gain := gain, shift := shift.setWidth 4,
        outputOffset := pairValue outHi outLo, clampLow := low, clampHigh := high, unit := unit.setWidth 4 }
  else none

/-- R82: the effect of a PROFILE-STAGE whose values pass. -/
def stageAt (p : BitVec 6) (record : Option Profile) (s : State) : HeadResult :=
  if !stagingRoom p s.staging then failHead .stagingFull s
  else
    let staging := stageRecord { target := p, record := record } s.staging
    .ends .done [natWord staging.length, flagWord (s.staging.any fun e => e.target = p)]
      { s with staging := staging }

/-- R81, R82: PROFILE-STAGE. -/
def takeProfileStage (cmd : Command) (s : State) : HeadResult :=
  match cmd.params with
  | [index, valid, inHi, inLo, gain, shift, outHi, outLo, lowHi, lowLo, highHi, highLo, unit] =>
    if cmd.target ≠ 255 || 63 < index.toNat || 1 < valid.toNat then failHead .badParameter s
    else if valid = 0 then stageAt (index.setWidth 6) none s
    else
      match stageValues inHi inLo gain shift outHi outLo lowHi lowLo highHi highLo unit with
      | none => failHead .badParameter s
      | some record => stageAt (index.setWidth 6) (some record) s
  | _ => failHead .badParameter s

/-- R83: PROFILE-DISCARD. -/
def takeProfileDiscard (cmd : Command) (s : State) : HeadResult :=
  match cmd.params with
  | [index] =>
    if cmd.target ≠ 255 || (63 < index.toNat && index ≠ 255) then failHead .badParameter s
    else
      let kept := if index = 255 then [] else s.staging.filter fun e => e.target ≠ index.setWidth 6
      .ends .done [natWord (s.staging.length - kept.length), natWord kept.length] { s with staging := kept }
  | _ => failHead .badParameter s

/-- R85: PROFILE-COMMIT: DONE at once on an empty Staging Area, else the commit is pending and the command stays. -/
def takeProfileCommit (cmd : Command) (s : State) : HeadResult :=
  if cmd.target ≠ 255 then failHead .badParameter s
  else if s.staging = [] then .ends .done [0, s.generation, 0, 0, 0] s
  else .stays { s with commitPending := true }

/-- R84: PROFILE-READ. -/
def takeProfileRead (cmd : Command) (s : State) : HeadResult :=
  match cmd.params with
  | [index, source] =>
    if cmd.target ≠ 255 || 63 < index.toNat || 1 < source.toNat then failHead .badParameter s
    else
      let p : BitVec 6 := index.setWidth 6
      if source = 0 then .ends .done ([0] ++ recordWords (Table.get p s.profiles) ++ [s.generation]) s
      else
        match stagedRecord p s.staging with
        | none => failHead .wrongState s
        | some record =>
          .ends .done
            ([1] ++ recordWords record ++ [natWord (s.staging.findIdx (fun e => e.target = p) + 1)]) s
  | _ => failHead .badParameter s

/-! ### SET-PART and CAPTURE -/

/-- R136: SET-PART. -/
def takeSetPart (cmd : Command) (s : State) : HeadResult :=
  match cmd.params with
  | [interval, limit] =>
    if cmd.target ≠ 255 || interval.toNat < 1 || 255 < interval.toNat || limit.toNat < 1 || 15 < limit.toNat then
      failHead .badParameter s
    else
      .ends .done [interval, limit]
        { s with retryInterval := interval.setWidth 8, retryLimit := limit.setWidth 4 }
  | _ => failHead .badParameter s

/-- R145: the ranges of CAPTURE's profile, mode, N and T. -/
def captureParamsOk (p mode n t : Word) : Bool :=
  p.toNat ≤ 63 && mode.toNat ≤ 1 && 1 ≤ n.toNat && n.toNat ≤ 4096 && 1 ≤ t.toNat && t.toNat ≤ 255

/-- R145, R148: CAPTURE: the checks, and the record of the capture it starts. -/
def takeCapture (cmd : Command) (s : State) : HeadResult :=
  match targetContext cmd.target with
  | none => failHead .badParameter s
  | some i =>
    match cmd.params with
    | [profile, mode, n, t, hi, lo] =>
      let p : BitVec 6 := profile.setWidth 6
      let source := captureSource p s
      if !captureParamsOk profile mode n t then failHead .badParameter s
      else if (s.context i).state ≠ .active || (s.context i).held then failHead .wrongState s
      else if (sourceRecord source p s).isNone then failHead .wrongState s
      else
        .stays
          { s with
            capture :=
              some
                { context := i, profile := p, mode := if mode = 0 then .zero else .span, n := n.toNat,
                  t := t.toNat, reference := pairValue hi lo, source := source, epoch := (s.context i).epoch,
                  stage := .armed, sum := 0, count := 0, cycles := 0, gaps := 0 } }
    | _ => failHead .badParameter s

/-! ### The command at the head (R130) -/

/-- R130: take a queued command at the head. -/
def takeHead (cmd : Command) (s : State) : HeadResult :=
  match cmd.code with
  | .nop => .ends .done [] s
  | .bind => takeBind cmd s
  | .unbind => takeUnbind cmd s
  | .setContext => takeSetContext cmd s
  | .hold => takeHold cmd s
  | .resume => takeResume cmd s
  | .reselect => takeReselect cmd s
  | .contextRead => takeContextRead cmd s
  | .countersRead => takeCountersRead cmd s
  | .mapWrite => takeMapWrite cmd s
  | .mapRead => takeMapRead cmd s
  | .profileStage => takeProfileStage cmd s
  | .profileDiscard => takeProfileDiscard cmd s
  | .profileCommit => takeProfileCommit cmd s
  | .profileRead => takeProfileRead cmd s
  | .setPart => takeSetPart cmd s
  | .capture => takeCapture cmd s

end Sys2Proof.Machine
end

