-- ==== Sys2Proof/Machine/CommandUnit.lean ====
section
/-! DEFINITION. The Command Unit: the Command Queue and its flush, the end of the executing command, admission, and
the immediate commands (chapter 7; RESET-PART in all chapters). -/

namespace Sys2Proof.Machine

/-! ### The Command Queue (R130 to R134) -/

/-- R133: every command of the list is flushed with a report from its own reservation, and the queue is empty. -/
def flush (cmds : List Command) (s : State) : State :=
  cmds.foldl (fun s c => queueFinal c .flushed 0 [] s) { s with commandQueue := [], executing := false }

/-- R130: take the commands of a queue at the head one after another, until the queue is empty, one ends other than
DONE, or one stays. -/
def runQueue : List Command → State → State
  | [], s => { s with commandQueue := [], executing := false }
  | c :: rest, s =>
    match takeHead c s with
    | .stays s' => { s' with commandQueue := c :: rest, executing := true }
    | .ends o data s' =>
      let s'' := queueFinal c o 0 data s'
      if o = .done then runQueue rest s'' else flush rest s''

/-- R131: the executing command completes: its report is queued and it leaves the queue. -/
def finishHead (o : CommandOutcome) (stage : Byte) (data : List Word) (s : State) : State :=
  match s.commandQueue with
  | [] => s
  | c :: rest => queueFinal c o stage data { s with commandQueue := rest, executing := false }

/-- R134: what follows the end of the executing command: the commands behind it are taken after DONE, and flushed
after any other outcome. -/
def resumeQueue (o : CommandOutcome) (s : State) : State :=
  if o = .done then runQueue s.commandQueue s else flush s.commandQueue s

/-! ### Endings of a capture (R150 to R159) -/

/-- R155: the capture ends: its report is queued and the record is idle. The commands behind it are not yet taken. -/
def reportCapture (o : CommandOutcome) (stage : Byte) (mean field : Int) (k : Capture) (s : State) : State :=
  finishHead o stage (k.data mean field s.staging.length) { s with capture := none }

/-- R151, R156, R158, R159: another event ends the capture in progress at the stage it has reached, and the commands
behind it are flushed. -/
def endCapture (o : CommandOutcome) (k : Capture) (s : State) : State :=
  resumeQueue o (reportCapture o k.stage.code 0 0 k s)

/-- R156: an event at a context ends the capture that runs on it. -/
def endCaptureOn (i : Fin 32) (o : CommandOutcome) (s : State) : State :=
  match s.capture with
  | some k => if k.context = i then endCapture o k s else s
  | none => s

/-! ### Admission (R121 to R128) -/

/-- R126: enter a pair at the end of the Recent Command List; of 8 entries the oldest leaves. -/
def enterRecent (tag code : Byte) (l : List (Byte × Byte)) : List (Byte × Byte) :=
  (if 8 ≤ l.length then l.drop (l.length - 7) else l) ++ [(tag, code)]

/-- R171: the arrival of a COMMAND frame returns a STALLED path to RUNNING. -/
def recoverPath (s : State) : State :=
  if s.path = .stalled then
    { s with path := .running, reports := unsendAll s.reports, retryCount := 0, retryTimer := none }
  else s

/-- R122: the payload length of a queued command; MAP-WRITE's follows from its count word, payload word 3 (R68). -/
def queuedLength (q : QueuedCode) (payload : List Word) : Option Nat :=
  match q with
  | .nop => some 2
  | .bind => some 7
  | .unbind => some 2
  | .setContext => some 12
  | .hold => some 2
  | .resume => some 2
  | .reselect => some 2
  | .contextRead => some 2
  | .countersRead => some 3
  | .mapWrite => payload[3]?.map fun count => count.toNat + 5
  | .mapRead => some 4
  | .profileStage => some 15
  | .profileDiscard => some 3
  | .profileCommit => some 2
  | .profileRead => some 4
  | .setPart => some 4
  | .capture => some 8

/-- R122: the payload length of an immediate command. -/
def immediateLength : ImmediateCode → Nat
  | .ackReports => 3
  | .abort => 2
  | .status => 2
  | .resetPart => 3

/-- R124: the payload is well formed for its code. -/
def commandFits (code : CommandCode) (payload : List Word) : Bool :=
  match code with
  | .queued q => queuedLength q payload = some payload.length
  | .immediate i =>
    payload.length = immediateLength i
      && (i ≠ .resetPart || payload[2]? = some 0 || payload[2]? = some 1)

/-- The reasons of a refusal (R125). -/
inductive RefusalReason where
  | malformed
  | queueFull
  | noReportSpace
  deriving DecidableEq, Repr

/-- The reason word of REFUSALS (R125). -/
def RefusalReason.code : RefusalReason → Word
  | .malformed => 1
  | .queueFull => 2
  | .noReportSpace => 3

/-- R125: a refusal is counted and latched with the tag, the code and the reason; without a payload word the tag and
the code read 0xFFFF. -/
def refuse (payload : List Word) (r : RefusalReason) (s : State) : State :=
  let named :=
    match payload with
    | [] => [0xFFFF, 0xFFFF]
    | w0 :: _ => [(tagOf w0).setWidth 16, (codeOf w0).setWidth 16]
  latchPart .refusals (named ++ [r.code])
    (countPart (fun k => { k with commandsRefused := satAdd k.commandsRefused 1 }) s)

/-- R127: a duplicate is counted and otherwise ignored. -/
def ignoreDuplicate (s : State) : State :=
  countPart (fun k => { k with commandDuplicates := satAdd k.commandDuplicates 1 }) s

/-- R128: admission: a reservation, a place at the end of the Command Queue, an entry in the list, a count; on an
empty queue the command is taken at the head in the same event. -/
def enterQueue (c : Command) (s : State) : State :=
  let s :=
    countPart (fun k => { k with commandsAdmitted := satAdd k.commandsAdmitted 1 })
      { s with
        reservations := s.reservations + 1
        recent := enterRecent c.tag c.code.toByte s.recent }
  if s.commandQueue = [] then runQueue [c] s
  else { s with commandQueue := s.commandQueue ++ [c] }

/-! ### Immediate commands (R137 to R141, R165, R166) -/

/-- An immediate command is taken (R144). -/
def countImmediate (s : State) : State :=
  countPart (fun k => { k with immediatesTaken := satAdd k.immediatesTaken 1 }) s

/-- Enter the pair of an immediate command that is entered (R126). -/
def enterImmediate (tag : Byte) (i : ImmediateCode) (s : State) : State :=
  { s with recent := enterRecent tag i.toByte s.recent }

/-- R165, R166: ACK-REPORTS of report sequence n. -/
def takeAck (n : Word) (s : State) : State :=
  if s.reports.any (fun r => r.sent && r.seq = n) then
    let left := s.reports.drop (s.reports.findIdx (fun r => r.sent && r.seq = n) + 1)
    { s with
      reports := left
      retryCount := 0
      retryTimer := if anySent left then some s.retryInterval else none }
  else latchPart .ackInvalid [n, natWord (s.reports.countP Report.sent)] s

/-- R91: ABORT of a pending commit. -/
def abortCommit (s : State) : State :=
  resumeQueue .aborted
    (finishHead .aborted 0 [natWord s.staging.length, s.generation, 0, 0, 0] { s with commitPending := false })

/-- R139: ABORT: on an empty queue nothing more; else the head is a pending commit or a running capture, and it ends
ABORTED. -/
def takeAbort (s : State) : State :=
  if s.commandQueue = [] then s
  else if s.commitPending then abortCommit s
  else
    match s.capture with
    | some k => endCapture .aborted k s
    | none => s

/-- R138: the fifteen data words of STATUS; the path is the one before the frame arrived. -/
def statusWords (pathBefore : ReportPath) (s : State) : List Word :=
  [0x3208, 1, flagWord (s.linkUp .field), flagWord (s.linkUp .control),
    match pathBefore with | .running => 0 | .stalled => 1,
    natWord s.commandQueue.length, natWord s.reservations, natWord s.reports.length, natWord s.staging.length,
    flagWord s.commitPending,
    match s.capture with | some k => k.stage.code.setWidth 16 | none => 0xFFFF,
    s.generation, flagWord s.lastCycle.isSome, s.lastCycle.getD 0,
    natWord (s.countContexts fun c => c.state ≠ .free)]

/-- R138: STATUS, when there is room: a COMPLETION report queued without a reservation. -/
def takeStatus (tag : Byte) (pathBefore : ReportPath) (s : State) : State :=
  queueReport (.completion tag ImmediateCode.status.toByte .done 0 255 (statusWords pathBefore s)) s

/-- The causes of RESTARTED (R173). -/
inductive RestartCause where
  | power
  | full
  | contexts
  deriving DecidableEq, Repr

/-- The cause word of RESTARTED (R173). -/
def RestartCause.code : RestartCause → Word
  | .power => 1
  | .full => 2
  | .contexts => 3

/-- R23: every context record and Stream Map entry after RESET-PART of either scope. -/
def freeContexts (s : State) : State :=
  { s with streamMap := [], contexts := Vector.replicate 32 Context.free }

/-- R141: what both scopes discard without a report: the Command Queue and its reservations, a pending commit, a
capture, and the Measure Queue (R119). -/
def discardWork (s : State) : State :=
  { s with
    commandQueue := [], executing := false, reservations := 0, commitPending := false, capture := none,
    measureQueue := [] }

/-- R141, R178: RESET-PART FULL, its own pair entered in the emptied list. The links and the frames in transmission are
left as they are (R141, R187), and so are the cycle marks on their way (R33). -/
def resetFull (tag : Byte) (s : State) : State :=
  { freeContexts (discardWork s) with
    downQueue := [], upQueue := [], cycleSlot := none, measuresSincePass := 0, part := {},
    lastCycle := none, selectionMap := [], profiles := [], generation := 0, staging := [],
    recent := [(tag, ImmediateCode.resetPart.toByte)],
    reports := [], nextReportSeq := 0, path := .running, retryTimer := none, retryCount := 0,
    retryInterval := 20, retryLimit := 4,
    partLatch := latchAdd PartKind.restarted.code PartKind.restarted.coalescing [RestartCause.full.code] [],
    scan := .part }

/-- R141, R179: RESET-PART CONTEXTS. -/
def resetContexts (tag : Byte) (s : State) : State :=
  latchPart .restarted [RestartCause.contexts.code]
    (freeContexts (discardWork (enterImmediate tag .resetPart s)))

/-- R123, step 3: an immediate command. -/
def takeImmediate (tag : Byte) (i : ImmediateCode) (payload : List Word) (pathBefore : ReportPath)
    (s : State) : State :=
  match i with
  | .ackReports => takeAck (payload.getD 2 0) (countImmediate s)
  | .abort => takeAbort (enterImmediate tag .abort (countImmediate s))
  | .status =>
    if s.reportLoad < 16 then takeStatus tag pathBefore (enterImmediate tag .status (countImmediate s))
    else refuse payload .noReportSpace s
  | .resetPart =>
    if payload.getD 2 0 = 0 then resetFull tag (countImmediate s) else resetContexts tag (countImmediate s)

/-! ### The arrival of a COMMAND frame (R121, R123) -/

/-- R123: the admission checks, in their order. -/
def admission (payload : List Word) (pathBefore : ReportPath) (s : State) : State :=
  match payload with
  | w0 :: target :: params =>
    match CommandCode.ofByte (codeOf w0) with
    | none => refuse payload .malformed s
    | some code =>
      if !commandFits code payload then refuse payload .malformed s
      else if s.recent.contains (tagOf w0, codeOf w0) then ignoreDuplicate s
      else
        match code with
        | .immediate i => takeImmediate (tagOf w0) i payload pathBefore s
        | .queued q =>
          if 4 ≤ s.commandQueue.length then refuse payload .queueFull s
          else if 16 ≤ s.reportLoad then refuse payload .noReportSpace s
          else enterQueue { tag := tagOf w0, code := q, target := target, params := params } s
  | _ => refuse payload .malformed s

/-- R121: a COMMAND frame reaches the Command Unit: it is counted, the path recovers, and admission follows. -/
def commandArrives (payload : List Word) (s : State) : State :=
  admission payload s.path
    (recoverPath (countPart (fun k => { k with commandsReceived := satAdd k.commandsReceived 1 }) s))

end Sys2Proof.Machine
end

