-- ==== Sys2Proof/Machine/Streams.lean ====
section
/-! DEFINITION. What a SAMPLE or a DESCRIBE frame does at its context (chapters 3 and 6), and unbound traffic (R96). -/

namespace Sys2Proof.Machine

/-! ### DESCRIBE (chapter 3) -/

/-- R40: an invalid frame latches DESC_INVALID and leaves the rest. -/
def Context.describeInvalid (code found : Word) (c : Context) : Context :=
  c.latchKind .descInvalid [code, found]

/-- R42, R43: the first descriptor. -/
def Context.describeFirst (map : Table 8 (BitVec 6)) (profiles : Table 6 Profile) (d : Descriptor)
    (c : Context) : Context :=
  (Context.latchKind .descNew ([d.word] ++ wordPair d.serial ++ [1])
    { c with
      descriptor := some d, epoch := 1, remaining := c.lifetime, tracker := .resync,
      state := .unmapped }).selectionRun map profiles

/-- R44: an identical refresh. -/
def Context.describeIdentical (c : Context) : Context :=
  { c with
    remaining := c.lifetime
    state := if c.state = .stale then settledState c.activeProfile else c.state }

/-- R45, R46: a changed descriptor. -/
def Context.describeChanged (map : Table 8 (BitVec 6)) (profiles : Table 6 Profile) (old new : Descriptor)
    (c : Context) : Context :=
  (Context.latchKind .descChanged
    [changedFields old new, new.word, old.word, (c.epoch + 1).setWidth 16]
    { c.count (fun k => { k with changes := satAdd k.changes 1 }) with
      descriptor := some new, epoch := c.epoch + 1, remaining := c.lifetime, tracker := .resync,
      state := if c.state = .stale then settledState c.activeProfile else c.state }).selectionRun map profiles

/-- R38: the count of descriptors received. -/
def Context.countDescribe (c : Context) : Context :=
  c.count fun k => { k with descriptors := satAdd k.descriptors 1 }

/-- R38: a DESCRIBE frame at its context: counted, and classified as invalid, first, identical or changed. -/
def Context.describe (map : Table 8 (BitVec 6)) (profiles : Table 6 Profile) (payload : List Word)
    (c : Context) : Context :=
  match checkDescribe payload with
  | .invalid code found => c.countDescribe.describeInvalid code found
  | .valid d =>
    match c.descriptor with
    | none => c.countDescribe.describeFirst map profiles d
    | some old =>
      if old = d then c.countDescribe.describeIdentical
      else c.countDescribe.describeChanged map profiles old d

/-- R45: the frame is a changed descriptor for the context. -/
def Context.describesChange (payload : List Word) (c : Context) : Bool :=
  match checkDescribe payload, c.descriptor with
  | .valid d, some old => old ≠ d
  | .valid _, none => false
  | .invalid _ _, _ => false

/-- R38, R45, R156: a DESCRIBE frame that the Stream Map resolved; a changed descriptor ends a capture on the context. -/
def describeContext (i : Fin 32) (payload : List Word) (s : State) : State :=
  let c := s.context i
  let s' := s.setContext i (c.describe s.selectionMap s.profiles payload)
  if c.describesChange payload then endCaptureOn i .descChanged s' else s'

/-! ### SAMPLE: tracking, length and deliverability (R95 to R106) -/

/-- R97: how the tracker classifies a frame. -/
inductive Tracking where
  /-- Duplicate or old: discarded. -/
  | old
  /-- Accepted, this many frames missed before it. -/
  | accepted (gap : Nat)
  deriving DecidableEq, Repr

/-- R97: the class of a frame with sequence q by its distance modulo 256. -/
def Tracker.classify (t : Tracker) (q : Byte) : Tracking :=
  match t with
  | .resync => .accepted 0
  | .expect e => if (q - e).toNat < 128 then .accepted (q - e).toNat else .old

/-- R98: a gap of d frames, d above 0. -/
def Context.noteGap (d : Nat) (q : Byte) (c : Context) : Context :=
  if d = 0 then c
  else
    (c.count fun k => { k with missed := satAdd k.missed d }).latchKind .gap [natWord d, q.setWidth 16]

/-- R100: an accepted frame moves the tracker, is counted, and ends the silence. -/
def Context.accept (q : Byte) (c : Context) : Context :=
  { c.count (fun k => { k with accepted := satAdd k.accepted 1 }) with
    tracker := .expect (q + 1), silenceCount := 0, silentReported := false }

/-- R99: a duplicate or old frame. -/
def Context.noteDuplicate (c : Context) : Context :=
  c.count fun k => { k with duplicates := satAdd k.duplicates 1 }

/-- R102: a malformed frame. -/
def Context.noteMalformed (length : Nat) (e : Encoding) (c : Context) : Context :=
  (c.count fun k => { k with malformed := satAdd k.malformed 1 }).latchKind .sampleMalformed
    [natWord length, e.code.setWidth 16]

/-- The DISCARDING reasons, in the order of the detail's words (R106). -/
inductive DiscardReason where
  | noDescriptor
  | held
  | unmapped
  | stale
  deriving DecidableEq, Repr

/-- The detail of one discarded frame: 1 in the word of its reason (R106). -/
def DiscardReason.detail : DiscardReason → List Word
  | .noDescriptor => [1, 0, 0, 0]
  | .held => [0, 1, 0, 0]
  | .unmapped => [0, 0, 1, 0]
  | .stale => [0, 0, 0, 1]

/-- R106: a discarded frame. -/
def Context.discard (r : DiscardReason) (c : Context) : Context :=
  (c.count fun k => { k with discarded := satAdd k.discarded 1 }).latchKind .discarding r.detail

/-- R104: whether the context may deliver: a reason to discard, or the active profile and the STALE flag. -/
inductive Delivery where
  | discard (r : DiscardReason)
  | through (profile : BitVec 6) (stale : Bool)
  deriving DecidableEq, Repr

/-- R104: the first row of its table that applies; a context that is neither UNMAPPED, ACTIVE nor STALE, or is ACTIVE
without a profile, does not reach this step (R13). -/
def Context.delivery (c : Context) : Delivery :=
  if c.held then .discard .held
  else
    match c.state, c.activeProfile with
    | .active, some p => .through p false
    | .stale, some p => if c.stalePolicy = .forward then .through p true else .discard .stale
    | .stale, none => .discard .stale
    | .active, none => .discard .unmapped
    | .unmapped, _ => .discard .unmapped
    | .bound, _ => .discard .noDescriptor
    | .free, _ => .discard .noDescriptor

/-! ### SAMPLE: conversion, budget and queue (R107 to R116) -/

/-- R107: the samples conditioned and the values clamped are counted. -/
def Context.noteConversion (p : Profile) (raws : List Int) (c : Context) : Context :=
  c.count fun k =>
    { k with
      conditioned := satAdd k.conditioned raws.length
      clamped := satAdd k.clamped (raws.countP p.clampsAt) }

/-- R108: a budget drop. -/
def Context.dropBudget (c : Context) : Context :=
  (c.count fun k => { k with budgetDrops := satAdd k.budgetDrops 1 }).latchKind .overBudget
    [1, natWord c.quota]

/-- R112: a queue drop. -/
def Context.dropQueue (c : Context) : Context :=
  (c.count fun k => { k with queueDrops := satAdd k.queueDrops 1 }).latchKind .queueOverflow [1]

/-- R114: the record after its MEASURE frame is queued. -/
def Context.afterMeasure (c : Context) : Context :=
  { c with
    outputSeq := c.outputSeq + 1
    budget := if 0 < c.quota then c.budget - 1 else c.budget
    newProfile := false }

/-- R114 to R116: the MEASURE frame of a context. -/
def measureFrame (i : Fin 32) (c : Context) (index : BitVec 6) (p : Profile) (generation : Word) (stale gap : Bool)
    (raws : List Int) : MeasureFrame :=
  { channel := match c.key with | some k => k.channel | none => 0
    seq := c.outputSeq
    context := i
    stale := stale
    gap := gap
    clamped := raws.any p.clampsAt
    newProfile := c.newProfile
    unit := p.unit
    profile := index
    epoch := c.epoch
    generation := generation
    values := raws.map p.deliver }

/-- R107 to R114: steps 5 to 8 for a context that may deliver through record p of index. -/
def conditionThrough (i : Fin 32) (index : BitVec 6) (p : Profile) (stale gap : Bool) (raws : List Int)
    (s : State) : State :=
  let c := (s.context i).noteConversion p raws
  if 0 < c.quota && c.budget = 0 then s.setContext i c.dropBudget
  else if 32 ≤ s.measureQueue.length then s.setContext i c.dropQueue
  else
    State.setContext i c.afterMeasure
      { s with
        measureQueue := s.measureQueue ++ [measureFrame i c index p s.generation stale gap raws] }

/-- R104 to R114: steps 4 to 8. An active profile whose record is invalid does not reach step 5 (R104). -/
def deliverSample (i : Fin 32) (gap : Bool) (raws : List Int) (s : State) : State :=
  match (s.context i).delivery with
  | .discard r => s.setContext i ((s.context i).discard r)
  | .through index stale =>
    match Table.get index s.profiles with
    | some p => conditionThrough i index p stale gap raws s
    | none => s.setContext i ((s.context i).discard .unmapped)

/-- R103, R150 to R154: step 3, and after the frame's handling `rest` (steps 4 to 8) what follows the end of a capture
that the frame completed. -/
def tapAround (i : Fin 32) (gap : Bool) (raws : List Int) (rest : State → State) (s : State) : State :=
  match s.capture with
  | none => rest s
  | some k =>
    if k.context = i && k.stage = .collecting then
      let k' := k.collect raws gap
      if k'.count = k'.n then
        let e := k'.complete s
        resumeQueue e.outcome
          (rest (reportCapture e.outcome e.stage k'.mean e.field k' { s with staging := e.staging }))
      else rest { s with capture := some k' }
    else rest s

/-- R95: a SAMPLE frame that the Stream Map resolved, through the eight steps. -/
def sampleContext (i : Fin 32) (q : Byte) (payload : List Word) (s : State) : State :=
  let c := s.context i
  match c.tracker.classify q with
  | .old => s.setContext i c.noteDuplicate
  | .accepted d =>
    let c' := (c.noteGap d q).accept q
    match c'.descriptor with
    | none => s.setContext i (c'.discard .noDescriptor)
    | some desc =>
      if !lengthFits desc.encoding payload.length then
        s.setContext i (c'.noteMalformed payload.length desc.encoding)
      else
        let raws := rawSamples desc.encoding payload
        tapAround i (0 < d) raws (deliverSample i (0 < d) raws) (s.setContext i c')

/-! ### The Stream Map's choice (R1, R96) -/

/-- R96: unbound traffic: latched with the frame's key and kind, and discarded. -/
def unboundTraffic (k : Key) (kind : BitVec 4) (s : State) : State :=
  latchPart .unboundTraffic [k.word, kind.setWidth 16] s

/-- R1: a good SAMPLE frame. -/
def sampleArrives (f : Frame) (s : State) : State :=
  let k : Key := { node := f.src, channel := f.channel }
  match s.resolve k with
  | some i => sampleContext i f.seq f.payload s
  | none => unboundTraffic k kindSample s

/-- R1: a good DESCRIBE frame. -/
def describeArrives (f : Frame) (s : State) : State :=
  let k : Key := { node := f.src, channel := f.channel }
  match s.resolve k with
  | some i => describeContext i f.payload s
  | none => unboundTraffic k kindDescribe s

end Sys2Proof.Machine
end

