-- ==== Sys2Proof/Machine/Ports.lean ====
section
/-! DEFINITION. The ports: the arrival of a frame of any kind, CYCLE and PASS frames (chapters 2 and 10). -/

namespace Sys2Proof.Machine

/-! ### CYCLE (R26 to R30) -/

/-- R29: every block that acts on cycle marks has one more to take. -/
def Marks.handOn (m : Marks) : Marks :=
  { silence := m.silence + 1, lifetime := m.lifetime + 1, budget := m.budget + 1, commit := m.commit + 1,
    capture := m.capture + 1 }

/-- R29, R30: a CYCLE frame taken as a cycle mark: its number is recorded and counted, and its copy goes to the
pending-cycle slot, replacing one that waits there. -/
def takeMark (r : Word) (s : State) : State :=
  countPart
    (fun k =>
      { k with
        cyclesTaken := satAdd k.cyclesTaken 1
        copiesReplaced := if s.cycleSlot.isSome then satAdd k.copiesReplaced 1 else k.copiesReplaced })
    { s with lastCycle := some r, cycleSlot := some r, marks := s.marks.handOn }

/-- R28: a skip is counted and latched before the mark. -/
def noteSkip (expected received : Word) (s : State) : State :=
  latchPart .cycleSkip [expected, received]
    (countPart (fun k => { k with cycleSkips := satAdd k.cycleSkips 1 }) s)

/-- R26, R27: a CYCLE frame at the Cycle Unit: malformed, or first, duplicate, in order or skip. -/
def cycleArrives (payload : List Word) (s : State) : State :=
  match payload with
  | [r] =>
    match s.lastCycle with
    | none => takeMark r s
    | some n =>
      if r = n then countPart (fun k => { k with cycleDuplicates := satAdd k.cycleDuplicates 1 }) s
      else if r = n + 1 then takeMark r s
      else takeMark r (noteSkip (n + 1) r s)
  | _ => countPart (fun k => { k with cyclesMalformed := satAdd k.cyclesMalformed 1 }) s

/-! ### PASS (R183) -/

/-- R173, R183: a PASS frame dropped at a full queue, counted and latched with its direction. -/
def dropPass (detail : List Word) (s : State) : State :=
  latchPart .passDrop detail (countPart (fun k => { k with passDropped := satAdd k.passDropped 1 }) s)

/-- R183: a PASS frame from a node. -/
def passUpArrives (words : List Word) (s : State) : State :=
  if s.upQueue.length < 8 then { s with upQueue := s.upQueue ++ [words] } else dropPass [1, 0] s

/-- R183: a PASS frame from the controller. -/
def passDownArrives (words : List Word) (s : State) : State :=
  if s.downQueue.length < 8 then { s with downQueue := s.downQueue ++ [words] } else dropPass [0, 1] s

/-! ### The arrival of a frame (R181, R182) -/

/-- R182: a good frame is handed on, and the transmitter it may have given a frame to chooses at the end of the event
(R184, R185; log entry 9). -/
def handOn (u : FrameUse) (f : Frame) (s : State) : State :=
  match u with
  | .sample => arbitrate (sampleArrives f s)
  | .describe => arbitrate (describeArrives f s)
  | .passUp => arbitrate (passUpArrives f.words s)
  | .passDown => fieldChoose (passDownArrives f.words s)
  | .cycle => fieldChoose (cycleArrives f.payload s)
  | .command => arbitrate (commandArrives f.payload s)

/-- R181: the end symbol of a frame with these words between the delimiters. A receiver takes frames only while its
link is UP. -/
def frameArrives (p : Port) (words : List Word) (s : State) : State :=
  if !s.linkUp p then s
  else
    let s := s.setLink p { s.link p with midFrame := false }
    match receive p words with
    | .bad e => countFrameError p e s
    | .good u f => handOn u f (countGood p s)

end Sys2Proof.Machine
end

