-- ==== Sys2Proof/Machine/LinkEvents.lean ====
section
/-! DEFINITION. The meanings of power-on, RESET_N, link state, symbol lock, the end of a transmission and a start
symbol inside a frame (R180, R181, R187 to R190, R193). -/

namespace Sys2Proof.Machine

/-- The three outcomes of a step, for this part. -/
abbrev StepOutcome := Host.Outcome State Fault Refusal

/-! ### Power-on (R193) -/

/-- R193, R178: every store at its power-on value; the model's own fields stay. -/
def powerOnState (s : State) : State := { State.reset with pending := s.pending, draws := s.draws }

/-- R193: the release of RESET_N after a low of this many nanoseconds: a power-on from 10 µs up; below, a power-on or
nothing, by a free value (log entry 2). -/
def releaseReset (lowNanoseconds : Nat) (s : State) : State :=
  if 10000 ≤ lowNanoseconds then powerOnState s
  else if Config.shortPulseRecognised s.draws then powerOnState { s with draws := s.draws + 1 }
  else { s with draws := s.draws + 1, resetHeld := false }

/-- POWER_ON (R193). -/
def execPowerOn (lowNanoseconds : Nat) (s : State) : StepOutcome := .next (releaseReset lowNanoseconds s)

/-- RESET_N_LOW (R193): until its release the part takes nothing, and both links are DOWN (`State.live`,
`State.linkUp`; log entry 3). -/
def execResetNLow (s : State) : StepOutcome := .next { s with resetHeld := true }

/-! ### Symbol lock and link UP (R180, R189, R190) -/

/-- R180: the receiver of a DOWN link gains lock: the 100 µs interval starts. -/
def gainLock (p : Port) (s : State) : State :=
  if (s.link p).up then s else s.setLink p { s.link p with locking := true }

/-- R180: the receiver of a DOWN link loses lock: the interval is abandoned. -/
def loseLock (p : Port) (s : State) : State :=
  if (s.link p).up then s else s.setLink p { s.link p with locking := false }

/-- R180: the interval of a DOWN link runs out with lock held: the link becomes UP, and `comeUp` follows. -/
def lockHeld (p : Port) (comeUp : State → State) (s : State) : State :=
  if !(s.link p).up && (s.link p).locking then
    comeUp (s.setLink p { up := true, locking := false, midFrame := false })
  else s

/-- R189: FIELD_UP is latched, and the field transmitter chooses its first frame. -/
def fieldComesUp (s : State) : State := fieldChoose (latchPart .fieldUp [] s)

/-- SYMBOL_LOCK_GAINED (R180). -/
def execSymbolLockGained (p : Port) (s : State) : StepOutcome := .next (s.live (gainLock p))

/-- SYMBOL_LOCK_LOST (R180). -/
def execSymbolLockLost (p : Port) (s : State) : StepOutcome := .next (s.live (loseLock p))

/-- FIELD_LINK_UP (R180, R189). -/
def execFieldLinkUp (s : State) : StepOutcome := .next (s.live (lockHeld .field fieldComesUp))

/-- CONTROL_LINK_UP (R180, R190): no event is latched; the arbiter chooses its first frame. -/
def execControlLinkUp (s : State) : StepOutcome := .next (s.live (lockHeld .control arbitrate))

/-! ### Field-link loss (R24, R31, R158, R188) -/

/-- R24: field-link loss at a context. -/
def Context.loseLink (c : Context) : Context :=
  if c.state = .free then c
  else
    { c with
      state := .bound, descriptor := none, activeProfile := none, epoch := 0, remaining := 0,
      tracker := .resync, silenceCount := 0, silentReported := false, newProfile := false }

/-- R173: the contexts FIELD_DOWN counts: those the loss moves from UNMAPPED, ACTIVE or STALE. -/
def Context.movedByLoss (c : Context) : Bool :=
  c.state = .unmapped || c.state = .active || c.state = .stale

/-- R31, R188: the cycle copies that the loss drops: one in the slot, and one being sent. -/
def copiesLost (s : State) : Nat :=
  (if s.cycleSlot.isSome then 1 else 0)
    + (match s.fieldTx with | some (.cycleCopy _) => 1 | some (.pass _) => 0 | none => 0)

/-- R188: what the Field Port loses: the link, a partial frame, a frame being sent, its queue and its slot. -/
def fieldPortLoss (s : State) : State :=
  countPart
    (fun k =>
      { k with
        passDropped := satAdd k.passDropped s.downQueue.length
        copiesDropped := satAdd k.copiesDropped (copiesLost s) })
    { s with fieldLink := {}, fieldTx := none, downQueue := [], cycleSlot := none }

/-- R158: a capture in progress ends LINK_DOWN. -/
def captureLinkDown (s : State) : State :=
  match s.capture with
  | some k => endCapture .linkDown k s
  | none => s

/-- R188: field-link loss, of a link that is UP. -/
def fieldLoss (s : State) : State :=
  if !s.fieldLink.up then s
  else
    arbitrate
      (captureLinkDown
        (latchPart .fieldDown [natWord (s.countContexts Context.movedByLoss)]
          ((fieldPortLoss s).mapContexts Context.loseLink)))

/-- FIELD_LINK_LOSS (R188). -/
def execFieldLinkLoss (s : State) : StepOutcome := .next (s.live fieldLoss)

/-! ### Control-link loss (R25, R92, R119, R142, R179, R190) -/

/-- R190: what the Control Port loses. -/
def controlPortLoss (s : State) : State :=
  countPart (fun k => { k with passDropped := satAdd k.passDropped s.upQueue.length })
    { s with controlLink := {}, controlTx := none, upQueue := [], measuresSincePass := 0 }

/-- R25, R119, R142, R179: what the other blocks lose with the control link. -/
def controlBlocksLoss (s : State) : State :=
  { discardWork s with
    recent := [], lastCycle := none, reports := [], nextReportSeq := 0, path := .running, retryTimer := none,
    retryCount := 0 }

/-- R190: control-link loss, of a link that is UP; CONTROL_RESTART tells what it discarded (R173). -/
def controlLoss (s : State) : State :=
  if !s.controlLink.up then s
  else
    latchPart .controlRestart [natWord s.reports.length, natWord s.commandQueue.length]
      (controlBlocksLoss (controlPortLoss s))

/-- CONTROL_LINK_LOSS (R190). -/
def execControlLinkLoss (s : State) : StepOutcome := .next (s.live controlLoss)

/-! ### Transmission and reception (R181, R187) -/

/-- R187: a frame ends complete: it is counted, and the idle transmitter chooses the next (R184, R185). -/
def endTransmission (p : Port) (s : State) : State :=
  match p with
  | .field => if s.fieldTx.isSome then fieldChoose (countSent .field { s with fieldTx := none }) else s
  | .control => if s.controlTx.isSome then arbitrate (countSent .control { s with controlTx := none }) else s

/-- TRANSMISSION_END (R187). -/
def execTransmissionEnd (p : Port) (s : State) : StepOutcome := .next (s.live (endTransmission p))

/-- R181: the partial frame is counted as a length error, and the start symbol begins a new frame. -/
def startInFrame (p : Port) (s : State) : State :=
  if !s.linkUp p then s
  else countFrameError p .length (s.setLink p { s.link p with midFrame := true })

/-- START_SYMBOL_IN_FRAME (R181). -/
def execStartSymbolInFrame (p : Port) (s : State) : StepOutcome := .next (s.live (startInFrame p))

end Sys2Proof.Machine
end

