-- ==== Sys2Proof/Machine/CycleMarks.lean ====
section
/-! DEFINITION. The meanings of the five takings of a cycle mark: silence supervision, lifetime countdown, budget
reload, commit and capture (R34, R49, R109, R86, R149, R151). A block takes a mark only when one is on its way to it
(R29; log entry 7). -/

namespace Sys2Proof.Machine

/-! ### Silence supervision (R34, R35) -/

/-- R34: the silence count after a mark, saturating at 15. -/
def Context.nextSilence (c : Context) : BitVec 4 := satAdd c.silenceCount 1

/-- R34, R35: silence supervision of one context. -/
def Context.superviseSilence (c : Context) : Context :=
  if c.state = .free || c.silenceLimit = 0 then c
  else if c.nextSilence = c.silenceLimit && !c.silentReported then
    Context.latchKind .silent [c.silenceLimit.setWidth 16, c.outputSeq.setWidth 16]
      { c with silenceCount := c.nextSilence, silentReported := true }
  else { c with silenceCount := c.nextSilence }

/-- R34: the Cycle Unit takes a mark for silence supervision. -/
def superviseSilence (s : State) : State :=
  if s.marks.silence = 0 then s
  else
    State.mapContexts Context.superviseSilence
      { s with marks := { s.marks with silence := s.marks.silence - 1 } }

/-- SILENCE_SUPERVISION (R34). -/
def execSilenceSupervision (s : State) : StepOutcome := .next (s.live superviseSilence)

/-! ### Lifetime countdown (R49, R50) -/

/-- R49: the contexts that are counted: holding a descriptor, with a lifetime, not STALE. -/
def Context.counted (c : Context) : Bool := c.descriptor.isSome && c.lifetime ≠ 0 && c.state ≠ .stale

/-- R49: the mark turns the context STALE. -/
def Context.turnsStale (c : Context) : Bool := c.counted && c.remaining.toNat ≤ 1

/-- R49, R50: the countdown of one context. -/
def Context.countDown (c : Context) : Context :=
  if c.turnsStale then
    Context.latchKind .descStale [c.lifetime.setWidth 16, c.epoch.setWidth 16]
      { c with remaining := 0, state := .stale }
  else if c.counted then { c with remaining := c.remaining - 1 }
  else c

/-- R50, R156: a context turning STALE ends the capture that runs on it. -/
def endCaptureIfStale (before s : State) : State :=
  match s.capture with
  | some k => if (before.context k.context).turnsStale then endCapture .stale k s else s
  | none => s

/-- R49: the Descriptor Unit takes a mark. -/
def countLifetimes (s : State) : State :=
  if s.marks.lifetime = 0 then s
  else
    arbitrate
      (endCaptureIfStale s
        (State.mapContexts Context.countDown
          { s with marks := { s.marks with lifetime := s.marks.lifetime - 1 } }))

/-- LIFETIME_COUNTDOWN (R49). -/
def execLifetimeCountdown (s : State) : StepOutcome := .next (s.live countLifetimes)

/-! ### Budget reload (R109) -/

/-- R109: the live budget of a context is its quota again. -/
def Context.reload (c : Context) : Context := { c with budget := c.quota }

/-- R109: the Conditioning Unit takes a mark. -/
def reloadBudgets (s : State) : State :=
  if s.marks.budget = 0 then s
  else
    State.mapContexts Context.reload { s with marks := { s.marks with budget := s.marks.budget - 1 } }

/-- BUDGET_RELOAD (R109). -/
def execBudgetReload (s : State) : StepOutcome := .next (s.live reloadBudgets)

/-! ### Commit (R86 to R90) -/

/-- R86: the table after the commit, with the Staging Area empty, the generation one up and the flag clear. -/
def commitTable (s : State) : State :=
  { s with
    profiles := applyStaged s.staging s.profiles
    staging := []
    generation := s.generation + 1
    commitPending := false }

/-- R87, R88: the repair of one context at the commit that `s` is about to make. -/
def State.repair (s : State) (c : Context) : Repair :=
  repairContext s.selectionMap s.profiles (applyStaged s.staging s.profiles) s.staging (s.generation + 1) c

/-- R86: the five data words of an applied commit (log entry 12 for the fifth). -/
def commitWords (s : State) : List Word :=
  [natWord s.staging.length, s.generation + 1, natWord (s.staging.countP fun e => e.record.isNone),
    natWord (s.countContexts fun c => (s.repair c).lost), natWord (s.countContexts fun c => (s.repair c).gained)]

/-- R86: the commit is applied, the contexts are repaired, and the PROFILE-COMMIT completes DONE at stage 1. -/
def applyCommit (s : State) : State :=
  resumeQueue .done
    (finishHead .done 1 (commitWords s) ((commitTable s).mapContexts fun c => (s.repair c).context))

/-- R86: the Profile Table takes a mark; with commit-pending clear it does nothing. -/
def takeCommitMark (s : State) : State :=
  if s.marks.commit = 0 then s
  else
    let s := { s with marks := { s.marks with commit := s.marks.commit - 1 } }
    if s.commitPending then arbitrate (applyCommit s) else s

/-- COMMIT (R86). -/
def execCommit (s : State) : StepOutcome := .next (s.live takeCommitMark)

/-! ### Capture (R149, R151) -/

/-- R149, R151: the arming mark, a counted cycle, or the timeout. -/
def captureMark (k : Capture) (s : State) : State :=
  match k.stage with
  | .armed => { s with capture := some { k with stage := .collecting, cycles := 0 } }
  | .collecting =>
    let k' := { k with cycles := k.cycles + 1 }
    if k'.cycles = k'.t && k'.count < k'.n then arbitrate (endCapture .timeout k' s)
    else { s with capture := some k' }

/-- R149, R151: the Capture Unit takes a mark. -/
def takeCaptureMark (s : State) : State :=
  if s.marks.capture = 0 then s
  else
    let s := { s with marks := { s.marks with capture := s.marks.capture - 1 } }
    match s.capture with
    | some k => captureMark k s
    | none => s

/-- CAPTURE_CYCLE_MARK (R151). -/
def execCaptureCycleMark (s : State) : StepOutcome := .next (s.live takeCaptureMark)

end Sys2Proof.Machine
end

