-- ==== Sys2Proof/Machine/ImmediateCommands.lean ====
section
/-! DEFINITION. The meanings of the immediate COMMAND frames: the arrival of the frame (R121) and its taking
at once (`takeImmediate`, R123). What the part does follows from the words (log entry 8). -/

namespace Sys2Proof.Machine

/-- ACK-REPORTS (R137, R165, R166). -/
def execAckReports (p : Port) (words : List Word) (s : State) : StepOutcome :=
  .next (s.live (frameArrives p words))

/-- ABORT (R139). -/
def execAbort (p : Port) (words : List Word) (s : State) : StepOutcome :=
  .next (s.live (frameArrives p words))

/-- STATUS (R138). -/
def execStatus (p : Port) (words : List Word) (s : State) : StepOutcome :=
  .next (s.live (frameArrives p words))

/-- RESET-PART FULL (R141, R178). -/
def execResetPartFull (p : Port) (words : List Word) (s : State) : StepOutcome :=
  .next (s.live (frameArrives p words))

/-- RESET-PART CONTEXTS (R141, R179). -/
def execResetPartContexts (p : Port) (words : List Word) (s : State) : StepOutcome :=
  .next (s.live (frameArrives p words))

end Sys2Proof.Machine
end

