-- ==== Sys2Proof/Machine/QueuedCommands.lean ====
section
/-! DEFINITION. The meanings of the queued COMMAND frames: the arrival of the frame (R121), its
admission (R128), and on an empty queue its taking at the head (`takeHead`, R130). What the part does follows from the
words (log entry 8). -/

namespace Sys2Proof.Machine

/-- NOP (R135). -/
def execNop (p : Port) (words : List Word) (s : State) : StepOutcome :=
  .next (s.live (frameArrives p words))

/-- BIND (R16). -/
def execBind (p : Port) (words : List Word) (s : State) : StepOutcome :=
  .next (s.live (frameArrives p words))

/-- UNBIND (R17). -/
def execUnbind (p : Port) (words : List Word) (s : State) : StepOutcome :=
  .next (s.live (frameArrives p words))

/-- SET-CONTEXT (R18, R19). -/
def execSetContext (p : Port) (words : List Word) (s : State) : StepOutcome :=
  .next (s.live (frameArrives p words))

/-- HOLD (R20). -/
def execHold (p : Port) (words : List Word) (s : State) : StepOutcome :=
  .next (s.live (frameArrives p words))

/-- RESUME (R21). -/
def execResume (p : Port) (words : List Word) (s : State) : StepOutcome :=
  .next (s.live (frameArrives p words))

/-- RESELECT of one context (R72). -/
def execReselect (p : Port) (words : List Word) (s : State) : StepOutcome :=
  .next (s.live (frameArrives p words))

/-- RESELECT with target 255 (R73). -/
def execReselectAll (p : Port) (words : List Word) (s : State) : StepOutcome :=
  .next (s.live (frameArrives p words))

/-- CONTEXT-READ (R22). -/
def execContextRead (p : Port) (words : List Word) (s : State) : StepOutcome :=
  .next (s.live (frameArrives p words))

/-- COUNTERS-READ of a context (R118). -/
def execCountersRead (p : Port) (words : List Word) (s : State) : StepOutcome :=
  .next (s.live (frameArrives p words))

/-- COUNTERS-READ with target 255 (R192). -/
def execCountersReadPart (p : Port) (words : List Word) (s : State) : StepOutcome :=
  .next (s.live (frameArrives p words))

/-- MAP-WRITE (R68 to R70). -/
def execMapWrite (p : Port) (words : List Word) (s : State) : StepOutcome :=
  .next (s.live (frameArrives p words))

/-- MAP-READ (R71). -/
def execMapRead (p : Port) (words : List Word) (s : State) : StepOutcome :=
  .next (s.live (frameArrives p words))

/-- PROFILE-STAGE (R81, R82). -/
def execProfileStage (p : Port) (words : List Word) (s : State) : StepOutcome :=
  .next (s.live (frameArrives p words))

/-- PROFILE-DISCARD (R83). -/
def execProfileDiscard (p : Port) (words : List Word) (s : State) : StepOutcome :=
  .next (s.live (frameArrives p words))

/-- PROFILE-COMMIT (R85). -/
def execProfileCommit (p : Port) (words : List Word) (s : State) : StepOutcome :=
  .next (s.live (frameArrives p words))

/-- PROFILE-READ (R84). -/
def execProfileRead (p : Port) (words : List Word) (s : State) : StepOutcome :=
  .next (s.live (frameArrives p words))

/-- SET-PART (R136). -/
def execSetPart (p : Port) (words : List Word) (s : State) : StepOutcome :=
  .next (s.live (frameArrives p words))

/-- CAPTURE (R145, R148). -/
def execCapture (p : Port) (words : List Word) (s : State) : StepOutcome :=
  .next (s.live (frameArrives p words))

end Sys2Proof.Machine
end

