-- ==== Sys2Proof/Machine/ReportEvents.lean ====
section
/-! DEFINITION. The meanings of the Report Unit's own events: expiry of the retry timer and emission (R168, R174,
R175). -/

namespace Sys2Proof.Machine

/-! ### The retry timer (R168) -/

/-- R168: the running timer runs out: a go-back within the limit, a stall above it. -/
def timerExpires (s : State) : State :=
  if s.retryTimer.isNone then s
  else if s.retryCount + 1 ≤ s.retryLimit.toNat then
    arbitrate
      { s with
        retryCount := s.retryCount + 1
        reports := unsendAll s.reports
        retryTimer := some s.retryInterval }
  else { s with retryCount := s.retryCount + 1, path := .stalled, retryTimer := none }

/-- RETRY_TIMER_EXPIRY (R168). -/
def execRetryTimerExpiry (s : State) : StepOutcome := .next (s.live timerExpires)

/-! ### Emission (R174, R175) -/

/-- R175: the owner after one in the cyclic order PART, 0, 1, … , 31. -/
def Owner.next : Owner → Owner
  | .part => .context 0
  | .context i => if h : i.val + 1 < 32 then .context ⟨i.val + 1, h⟩ else .part

/-- R175: this many owners in the cyclic order, from one on. -/
def ownersFrom : Nat → Owner → List Owner
  | 0, _ => []
  | n + 1, o => o :: ownersFrom n o.next

/-- R172: the latch of an owner. -/
def State.latchOf (s : State) (o : Owner) : Latch :=
  match o with
  | .part => s.partLatch
  | .context i => (s.context i).latch

/-- Set the latch of an owner. -/
def State.setLatch (o : Owner) (l : Latch) (s : State) : State :=
  match o with
  | .part => { s with partLatch := l }
  | .context i => s.setContext i { s.context i with latch := l }

/-- R175: the first owner from the scan pointer on whose latch holds an entry. -/
def nextOwner (s : State) : Option Owner := (ownersFrom 33 s.scan).find? fun o => (s.latchOf o) ≠ []

/-- R175: the owner's lowest-numbered entry becomes an EVENT report and leaves the latch, and the pointer names the
next owner. A latch lists its entries by rising kind. -/
def emitFrom (o : Owner) (s : State) : State :=
  match s.latchOf o with
  | [] => s
  | (kind, e) :: rest =>
    queueReport (.event o kind e.count e.detail) (State.setLatch o rest { s with scan := o.next })

/-- R174: the three conditions of an emission, and the emission. -/
def emit (s : State) : State :=
  if !s.linkUp .control || 11 < s.reportLoad then s
  else
    match nextOwner s with
    | none => s
    | some o => arbitrate (emitFrom o s)

/-- EMISSION (R175). -/
def execEmission (s : State) : StepOutcome := .next (s.live emit)

end Sys2Proof.Machine
end

