-- ==== Sys2Proof/Machine/StreamFrames.lean ====
section
/-! DEFINITION. The meanings of the node frames, of PASS and of CYCLE (R1, R38, R95, R183, R27). Each row is the
complete arrival of its frame; what the part does follows from the words (log entry 8). -/

namespace Sys2Proof.Machine

/-- SAMPLE (R95). -/
def execSample (p : Port) (words : List Word) (s : State) : StepOutcome := .next (s.live (frameArrives p words))

/-- DESCRIBE (R38). -/
def execDescribe (p : Port) (words : List Word) (s : State) : StepOutcome := .next (s.live (frameArrives p words))

/-- PASS_UP (R183). -/
def execPassUp (p : Port) (words : List Word) (s : State) : StepOutcome := .next (s.live (frameArrives p words))

/-- PASS_DOWN (R183). -/
def execPassDown (p : Port) (words : List Word) (s : State) : StepOutcome := .next (s.live (frameArrives p words))

/-- CYCLE (R27). -/
def execCycle (p : Port) (words : List Word) (s : State) : StepOutcome := .next (s.live (frameArrives p words))

end Sys2Proof.Machine
end

