-- ==== Sys2Proof/Machine/Dispatch.lean ====
section
/-! DEFINITION. One arm for each row of the table: the row's meaning. -/

namespace Sys2Proof.Machine

/-- What a command does to everything but the queue of waiting commands. -/
def exec (i : Instr) (s : State) : Host.Outcome State Fault Refusal :=
  match i with
  | .powerOn ns => Sys2Proof.Machine.execPowerOn ns s
  | .fieldLinkUp => Sys2Proof.Machine.execFieldLinkUp s
  | .controlLinkUp => Sys2Proof.Machine.execControlLinkUp s
  | .fieldLinkLoss => Sys2Proof.Machine.execFieldLinkLoss s
  | .controlLinkLoss => Sys2Proof.Machine.execControlLinkLoss s
  | .sample p words => Sys2Proof.Machine.execSample p words s
  | .describe p words => Sys2Proof.Machine.execDescribe p words s
  | .passUp p words => Sys2Proof.Machine.execPassUp p words s
  | .passDown p words => Sys2Proof.Machine.execPassDown p words s
  | .cycle p words => Sys2Proof.Machine.execCycle p words s
  | .silenceSupervision => Sys2Proof.Machine.execSilenceSupervision s
  | .lifetimeCountdown => Sys2Proof.Machine.execLifetimeCountdown s
  | .budgetReload => Sys2Proof.Machine.execBudgetReload s
  | .commit => Sys2Proof.Machine.execCommit s
  | .captureCycleMark => Sys2Proof.Machine.execCaptureCycleMark s
  | .nop p words => Sys2Proof.Machine.execNop p words s
  | .bind p words => Sys2Proof.Machine.execBind p words s
  | .unbind p words => Sys2Proof.Machine.execUnbind p words s
  | .setContext p words => Sys2Proof.Machine.execSetContext p words s
  | .hold p words => Sys2Proof.Machine.execHold p words s
  | .resume p words => Sys2Proof.Machine.execResume p words s
  | .reselect p words => Sys2Proof.Machine.execReselect p words s
  | .reselectAll p words => Sys2Proof.Machine.execReselectAll p words s
  | .contextRead p words => Sys2Proof.Machine.execContextRead p words s
  | .countersRead p words => Sys2Proof.Machine.execCountersRead p words s
  | .countersReadPart p words => Sys2Proof.Machine.execCountersReadPart p words s
  | .mapWrite p words => Sys2Proof.Machine.execMapWrite p words s
  | .mapRead p words => Sys2Proof.Machine.execMapRead p words s
  | .profileStage p words => Sys2Proof.Machine.execProfileStage p words s
  | .profileDiscard p words => Sys2Proof.Machine.execProfileDiscard p words s
  | .profileCommit p words => Sys2Proof.Machine.execProfileCommit p words s
  | .profileRead p words => Sys2Proof.Machine.execProfileRead p words s
  | .setPart p words => Sys2Proof.Machine.execSetPart p words s
  | .capture p words => Sys2Proof.Machine.execCapture p words s
  | .ackReports p words => Sys2Proof.Machine.execAckReports p words s
  | .abort p words => Sys2Proof.Machine.execAbort p words s
  | .status p words => Sys2Proof.Machine.execStatus p words s
  | .resetPartFull p words => Sys2Proof.Machine.execResetPartFull p words s
  | .resetPartContexts p words => Sys2Proof.Machine.execResetPartContexts p words s
  | .retryTimerExpiry => Sys2Proof.Machine.execRetryTimerExpiry s
  | .emission => Sys2Proof.Machine.execEmission s
  | .transmissionEnd p => Sys2Proof.Machine.execTransmissionEnd p s
  | .resetNLow => Sys2Proof.Machine.execResetNLow s
  | .symbolLockGained p => Sys2Proof.Machine.execSymbolLockGained p s
  | .symbolLockLost p => Sys2Proof.Machine.execSymbolLockLost p s
  | .startSymbolInFrame p => Sys2Proof.Machine.execStartSymbolInFrame p s

end Sys2Proof.Machine
end

