-- ==== Sys2Proof/WellFormed.lean ====
section
/-! DEFINITION. Well-formed commands: a frame row's words are a frame of that row, or a frame that no row claims
(one discarded at the port by R181, or a COMMAND frame refused as malformed by R124), which may arrive under any
frame row's name. What the part does with a frame follows from its words alone (log entry 8). -/

namespace Sys2Proof

/-- The words, at that port, are a frame of this row or of no row. -/
def frameLabelled (p : Port) (ws : List Word) (i : Instr) : Bool :=
  match frameCommand p ws with
  | none => true
  | some j => j = i

/-- A command is well formed when its words are a frame of its row, or of no row; rows without words always are. -/
def Instr.wf (i : Instr) : Bool :=
  match i with
  | .powerOn _ => true
  | .fieldLinkUp => true
  | .controlLinkUp => true
  | .fieldLinkLoss => true
  | .controlLinkLoss => true
  | .sample p ws => frameLabelled p ws (.sample p ws)
  | .describe p ws => frameLabelled p ws (.describe p ws)
  | .passUp p ws => frameLabelled p ws (.passUp p ws)
  | .passDown p ws => frameLabelled p ws (.passDown p ws)
  | .cycle p ws => frameLabelled p ws (.cycle p ws)
  | .silenceSupervision => true
  | .lifetimeCountdown => true
  | .budgetReload => true
  | .commit => true
  | .captureCycleMark => true
  | .nop p ws => frameLabelled p ws (.nop p ws)
  | .bind p ws => frameLabelled p ws (.bind p ws)
  | .unbind p ws => frameLabelled p ws (.unbind p ws)
  | .setContext p ws => frameLabelled p ws (.setContext p ws)
  | .hold p ws => frameLabelled p ws (.hold p ws)
  | .resume p ws => frameLabelled p ws (.resume p ws)
  | .reselect p ws => frameLabelled p ws (.reselect p ws)
  | .reselectAll p ws => frameLabelled p ws (.reselectAll p ws)
  | .contextRead p ws => frameLabelled p ws (.contextRead p ws)
  | .countersRead p ws => frameLabelled p ws (.countersRead p ws)
  | .countersReadPart p ws => frameLabelled p ws (.countersReadPart p ws)
  | .mapWrite p ws => frameLabelled p ws (.mapWrite p ws)
  | .mapRead p ws => frameLabelled p ws (.mapRead p ws)
  | .profileStage p ws => frameLabelled p ws (.profileStage p ws)
  | .profileDiscard p ws => frameLabelled p ws (.profileDiscard p ws)
  | .profileCommit p ws => frameLabelled p ws (.profileCommit p ws)
  | .profileRead p ws => frameLabelled p ws (.profileRead p ws)
  | .setPart p ws => frameLabelled p ws (.setPart p ws)
  | .capture p ws => frameLabelled p ws (.capture p ws)
  | .ackReports p ws => frameLabelled p ws (.ackReports p ws)
  | .abort p ws => frameLabelled p ws (.abort p ws)
  | .status p ws => frameLabelled p ws (.status p ws)
  | .resetPartFull p ws => frameLabelled p ws (.resetPartFull p ws)
  | .resetPartContexts p ws => frameLabelled p ws (.resetPartContexts p ws)
  | .retryTimerExpiry => true
  | .emission => true
  | .transmissionEnd _ => true
  | .resetNLow => true
  | .symbolLockGained _ => true
  | .symbolLockLost _ => true
  | .startSymbolInFrame _ => true

/-- The port and the words of a row that is a frame; none for a row that is not. -/
def Instr.frame? (i : Instr) : Option (Port × List Word) :=
  match i with
  | .powerOn _ => none
  | .fieldLinkUp => none
  | .controlLinkUp => none
  | .fieldLinkLoss => none
  | .controlLinkLoss => none
  | .sample p ws => some (p, ws)
  | .describe p ws => some (p, ws)
  | .passUp p ws => some (p, ws)
  | .passDown p ws => some (p, ws)
  | .cycle p ws => some (p, ws)
  | .silenceSupervision => none
  | .lifetimeCountdown => none
  | .budgetReload => none
  | .commit => none
  | .captureCycleMark => none
  | .nop p ws => some (p, ws)
  | .bind p ws => some (p, ws)
  | .unbind p ws => some (p, ws)
  | .setContext p ws => some (p, ws)
  | .hold p ws => some (p, ws)
  | .resume p ws => some (p, ws)
  | .reselect p ws => some (p, ws)
  | .reselectAll p ws => some (p, ws)
  | .contextRead p ws => some (p, ws)
  | .countersRead p ws => some (p, ws)
  | .countersReadPart p ws => some (p, ws)
  | .mapWrite p ws => some (p, ws)
  | .mapRead p ws => some (p, ws)
  | .profileStage p ws => some (p, ws)
  | .profileDiscard p ws => some (p, ws)
  | .profileCommit p ws => some (p, ws)
  | .profileRead p ws => some (p, ws)
  | .setPart p ws => some (p, ws)
  | .capture p ws => some (p, ws)
  | .ackReports p ws => some (p, ws)
  | .abort p ws => some (p, ws)
  | .status p ws => some (p, ws)
  | .resetPartFull p ws => some (p, ws)
  | .resetPartContexts p ws => some (p, ws)
  | .retryTimerExpiry => none
  | .emission => none
  | .transmissionEnd _ => none
  | .resetNLow => none
  | .symbolLockGained _ => none
  | .symbolLockLost _ => none
  | .startSymbolInFrame _ => none

end Sys2Proof
end

