-- ==== Sys2Proof/Safety.lean ====
section
/-! DEFINITION. The terms claims use: what a part in order looks like (the laws the chapters state of the stores), and
the state in which a command is met, so that a claim can say what the command adds to it. -/

namespace Sys2Proof.Safety

open Sys2Proof.Machine

/-! ### Laws of the stores -/

/-- The sparse stores and the latches stand in canonical form (R1, R58, R76, R172; log entry 11). -/
def TablesInOrder (s : State) : Prop :=
  Table.wf s.streamMap ∧ Table.wf s.selectionMap ∧ Table.wf s.profiles ∧ Table.wf s.partLatch
    ∧ ∀ i : Fin 32, Table.wf (s.context i).latch

/-- The bounds of the stores: R129 (one reservation for each command, at most 4), R160 (reports and reservations at
most 16), R126, R80, R111, R183, R186. -/
def StoresWithinBounds (s : State) : Prop :=
  s.reservations = s.commandQueue.length ∧ s.commandQueue.length ≤ 4 ∧ s.reports.length + s.reservations ≤ 16
    ∧ s.recent.length ≤ 8 ∧ s.staging.length ≤ 8 ∧ s.measureQueue.length ≤ 32 ∧ s.upQueue.length ≤ 8
    ∧ s.downQueue.length ≤ 8 ∧ s.measuresSincePass ≤ 4

/-- R80, R126: no two staged records have one target, and the Recent Command List holds no pair twice. -/
def NothingListedTwice (s : State) : Prop :=
  (s.staging.map Staged.target).Nodup ∧ s.recent.Nodup

/-- R161: report sequences are consecutive in queue order up to the next one, and every SENT report stands before
every UNSENT one. -/
def ReportsInSequence (s : State) : Prop :=
  (∀ k : Nat, ∀ r : Report, s.reports[k]? = some r →
      r.seq + BitVec.ofNat 16 (s.reports.length - k) = s.nextReportSeq)
    ∧ s.reports.Pairwise (fun a b => b.sent = true → a.sent = true)

/-- R13, R44: what a context's state tells of its record, with the Profile Table as it stands. -/
def ContextInLaw (profiles : Table 6 Profile) (c : Context) : Prop :=
  (match c.state with
    | .free => c.key = none ∧ c.descriptor = none ∧ c.activeProfile = none ∧ c.held = false ∧ c.latch = []
    | .bound => c.key.isSome ∧ c.descriptor = none ∧ c.activeProfile = none
    | .unmapped => c.key.isSome ∧ c.descriptor.isSome ∧ c.activeProfile = none
    | .active => c.key.isSome ∧ c.descriptor.isSome ∧ c.activeProfile.isSome
    | .stale => c.key.isSome ∧ c.descriptor.isSome)
    ∧ ∀ p, c.activeProfile = some p → validProfile profiles p = true

/-- R1, R13: every context is in law, and the Stream Map names context i for a key exactly when i holds that key. -/
def ContextsInLaw (s : State) : Prop :=
  (∀ i : Fin 32, ContextInLaw s.profiles (s.context i))
    ∧ ∀ (k : BitVec 8) (i : Fin 32),
        Table.get k s.streamMap = some i ↔ (s.context i).key.map Key.index = some k

/-- R130, R147: between two events the Command Queue is empty and nothing executes, or its head is a pending
PROFILE-COMMIT or a running CAPTURE on the command's target. -/
def HeadInOrder (s : State) : Prop :=
  match s.commandQueue with
  | [] => s.executing = false ∧ s.commitPending = false ∧ s.capture = none
  | c :: _ =>
    s.executing = true
      ∧ ((c.code = .profileCommit ∧ s.commitPending = true ∧ s.capture = none)
        ∨ (c.code = .capture ∧ s.commitPending = false
          ∧ ∃ k, s.capture = some k ∧ targetContext c.target = some k.context))

/-- R10, R109: a quota is at most 64, and a live budget at most its quota. -/
def BudgetsWithinQuotas (s : State) : Prop :=
  ∀ i : Fin 32, (s.context i).quota ≤ 64 ∧ (s.context i).budget ≤ (s.context i).quota

/-- R180, R187: a link that is DOWN has no frame on its transmitter. -/
def DownLinksSilent (s : State) : Prop :=
  (s.fieldLink.up = false → s.fieldTx = none) ∧ (s.controlLink.up = false → s.controlTx = none)

/-! ### The state in which a command frame is met -/

/-- R181: a good frame at a port: counted, and the receiver is outside a frame again. -/
def heardAt (p : Port) (s : State) : State := countGood p (s.setLink p { s.link p with midFrame := false })

/-- R121: a COMMAND frame at the Command Unit: counted, and the path running. -/
def heardCommand (s : State) : State :=
  recoverPath
    (countPart (fun k => { k with commandsReceived := satAdd k.commandsReceived 1 }) (heardAt .control s))

/-- R128: a queued command admitted to the empty queue, about to be taken at the head. -/
def admitted (q : QueuedCode) (tag : Byte) (s : State) : State :=
  { heardCommand s with
    part := { (heardCommand s).part with commandsAdmitted := satAdd (heardCommand s).part.commandsAdmitted 1 }
    reservations := s.reservations + 1
    recent := enterRecent tag q.toByte s.recent }

/-- R123, R126: an immediate command that is entered in the list, about to be carried out. -/
def takenAtOnce (i : ImmediateCode) (tag : Byte) (s : State) : State :=
  { heardCommand s with
    part := { (heardCommand s).part with immediatesTaken := satAdd (heardCommand s).part.immediatesTaken 1 }
    recent := enterRecent tag i.toByte s.recent }

/-- R161: reports with these bodies, queued in this order from this sequence on. -/
def numbered : Word → List ReportBody → List Report
  | _, [] => []
  | n, b :: rest => { seq := n, sent := false, body := b } :: numbered (n + 1) rest

/-- R131: a command's final report. -/
def finalBody (c : Command) (o : CommandOutcome) (stage : Byte) (data : List Word) : ReportBody :=
  .completion c.tag c.code.toByte o stage c.contextField data

/-- R133, R134: the executing command ends with an outcome other than DONE: its report and one FLUSHED report for each
command behind it are queued in that order, each from its own reservation, and the Command Queue is empty. -/
def endsFlushing (o : CommandOutcome) (stage : Byte) (data : List Word) (s : State) : State :=
  match s.commandQueue with
  | [] => { s with executing := false }
  | c :: rest =>
    let bodies := finalBody c o stage data :: rest.map fun c => finalBody c .flushed 0 []
    { s with
      reports := s.reports ++ numbered s.nextReportSeq bodies
      nextReportSeq := s.nextReportSeq + natWord bodies.length
      reservations := s.reservations - bodies.length
      commandQueue := []
      executing := false }

/-- R155: the ten data words of a capture that another event ends before stage 3. -/
def earlyEndWords (k : Capture) (staged : Nat) : List Word :=
  [0, 0, natWord k.count, natWord k.gaps, natWord k.cycles, k.epoch.setWidth 16,
    match k.source with | .table => 0 | .staging => 1, 0, 0, natWord staged]

/-- R122, R124: the payload lengths of the command codes; MAP-WRITE's follows from its count word, and RESET-PART's
scope is 0 or 1. -/
def payloadFits (code : Nat) (payload : List Word) : Prop :=
  (code, payload.length) ∈
      [(1, 2), (2, 7), (3, 2), (4, 12), (5, 2), (6, 2), (7, 2), (8, 2), (9, 3), (11, 4), (12, 15), (13, 3), (14, 2),
        (15, 4), (16, 4), (17, 8), (32, 3), (33, 2), (34, 2)]
    ∨ (code = 10 ∧ ∃ n : Word, payload[3]? = some n ∧ payload.length = n.toNat + 5)
    ∨ (code = 35 ∧ payload.length = 3 ∧ (payload[2]? = some 0 ∨ payload[2]? = some 1))

/-- R131: the command's completion report is queued from its reservation, and the Command Queue is empty. -/
def completed (c : Command) (o : CommandOutcome) (data : List Word) (s : State) : State :=
  queueFinal c o 0 data { s with commandQueue := [], executing := false }

/-- A COMMAND frame of this code and tag is heard, and is no duplicate: RESET_N is released, the control link is UP and
the pair is not in the Recent Command List (R123, R181, R193). -/
def HearsCommand (s : State) (code tag : Byte) : Prop :=
  s.resetHeld = false ∧ s.controlLink.up = true ∧ (tag, code) ∉ s.recent

/-- A queued command of this code and tag is admitted and taken at the head in the event of its arrival (R123, R128). -/
def TakesNow (s : State) (q : QueuedCode) (tag : Byte) : Prop :=
  HearsCommand s q.toByte tag ∧ s.commandQueue = [] ∧ s.reportLoad < 16

/-- The row's COMMAND frame with this target and these parameters, wherever it is taken in the event of its arrival, gives
a NEXT state: the command ends with this outcome and these data words, its report is queued, the arbiter chooses, and
everything else is what `effect` makes of the state in which the command is met. -/
def EndsOnArrival (row : Port → List Word → Instr) (q : QueuedCode) (target : Word) (params : List Word) (s : State)
    (o : CommandOutcome) (data : List Word) (effect : State → State) : Prop :=
  ∀ (tag seq : Byte) (channel : BitVec 3), TakesNow s q tag →
    exec (row .control (commandWords seq channel q.toByte tag target params)) s
      = .next (arbitrate (completed { tag, code := q, target, params } o data (effect (admitted q tag s))))

/-- The command ends so in the event of its arrival, and wherever else it is taken at the head (R130): what follows at the
head is said by `Obligations.QueueRunsUntilItStaysOrFails`. -/
def EndsAtHead (row : Port → List Word → Instr) (q : QueuedCode) (target : Word) (params : List Word) (s : State)
    (o : CommandOutcome) (data : List Word) (effect : State → State) : Prop :=
  (∀ tag : Byte, takeHead { tag, code := q, target, params } s = .ends o data (effect s))
    ∧ EndsOnArrival row q target params s o data effect

/-- As `EndsAtHead`, but the command stays at the head as the executing command, and no report is queued (R130). -/
def StaysAtHead (row : Port → List Word → Instr) (q : QueuedCode) (target : Word) (params : List Word) (s : State)
    (effect : State → State) : Prop :=
  (∀ tag : Byte, takeHead { tag, code := q, target, params } s = .stays (effect s))
    ∧ ∀ (tag seq : Byte) (channel : BitVec 3), TakesNow s q tag →
      exec (row .control (commandWords seq channel q.toByte tag target params)) s
        = .next
          (arbitrate
            { effect (admitted q tag s) with
              commandQueue := [{ tag, code := q, target, params }], executing := true })

/-! ### Frames by the numbers of R182, R194 and R55 -/

/-- R194: the words of a frame: three header words, the payload, and the CRC of the words before it. -/
def layout (kind dst src seq channel : Nat) (payload : List Word) : List Word :=
  let body : List Word :=
    natWord (4096 * kind + 128 * dst + 4 * src) :: natWord (256 * seq + 32 * channel) :: natWord payload.length
      :: payload
  body ++ [crc body]

/-- R182: the six rows of the combinations a port accepts, and where each hands its frame. -/
def AcceptedCombination (p : Port) (kind dst src : Nat) (u : FrameUse) : Prop :=
  match u with
  | .sample => p = .field ∧ kind = 1 ∧ dst = 31 ∧ 1 ≤ src ∧ src ≤ 29
  | .describe => p = .field ∧ kind = 2 ∧ dst = 31 ∧ 1 ≤ src ∧ src ≤ 29
  | .passUp => p = .field ∧ kind = 7 ∧ dst = 0 ∧ 1 ≤ src ∧ src ≤ 29
  | .command => p = .control ∧ kind = 4 ∧ dst = 31 ∧ src = 0
  | .cycle => p = .control ∧ kind = 3 ∧ dst = 31 ∧ src = 0
  | .passDown => p = .control ∧ kind = 7 ∧ 1 ≤ dst ∧ dst ≤ 30 ∧ src = 0

/-- R55: the payload lengths a SAMPLE frame may have under an encoding. -/
abbrev AllowedLength (e : Encoding) (n : Nat) : Prop :=
  if e = .signed24 then 2 ≤ n ∧ n ≤ 32 ∧ n % 2 = 0 else 1 ≤ n ∧ n ≤ 16

/-! ### The state in which a node frame is met -/

/-- A frame of words ws at the field port is good and of this use, RESET_N is released and the field link is UP. -/
def HearsFrame (s : State) (p : Port) (ws : List Word) (u : FrameUse) (f : Frame) : Prop :=
  s.resetHeld = false ∧ (s.link p).up = true ∧ receive p ws = .good u f

/-- The key of a node frame (R1). -/
def frameKey (f : Frame) : Key := { node := f.src, channel := f.channel }

/-- R97: the tracker accepts sequence q with this many frames missed before it. -/
def AcceptsAfter (c : Context) (q : Byte) (d : Nat) : Prop :=
  (c.tracker = .resync ∧ d = 0) ∨ ∃ e, c.tracker = .expect e ∧ d = (q - e).toNat ∧ d < 128

/-- R98, R100: the record after a frame of sequence q is accepted with d frames missed. -/
def acceptedRecord (q : Byte) (d : Nat) (c : Context) : Context :=
  let c' : Context :=
    { c with
      tracker := .expect (q + 1), silenceCount := 0, silentReported := false,
      counters :=
        { c.counters with accepted := satAdd c.counters.accepted 1, missed := satAdd c.counters.missed d } }
  if d = 0 then c' else c'.latchKind .gap [natWord d, q.setWidth 16]

/-- R156: no capture runs on this context. -/
def NoCaptureOn (s : State) (i : Fin 32) : Prop := ∀ k, s.capture = some k → k.context ≠ i

/-- R103, R150: no capture collects on this context. -/
def NotTapped (s : State) (i : Fin 32) : Prop :=
  ∀ k, s.capture = some k → k.context = i → k.stage = .armed

end Sys2Proof.Safety
end

