-- ==== Sys2Proof/Certificates/Slice0/Obligations.lean ====
section
/-! DEFINITION. The statements about the model, one `Prop` each, for the provers. The rules and sections they come from
stand in OBLIGATIONS.json. -/

open Sys2Proof Sys2Proof.Machine Sys2Proof.Safety

/-! ### The machine -/

/-- The queue of waiting commands is first in, first out, and on an empty queue the part idles. The queue is the model's
own (log entry 1). -/
def Obligations.StepTakesTheFrontCommand : Prop :=
  (∀ (c : Instr) (rest : List Instr) (s : State),
      step { s with pending := c :: rest } = exec c { s with pending := rest })
    ∧ ∀ s : State, s.pending = [] → step s = .next s

/-- No command stops the part, and none touches the queue of waiting commands (log entry 1). -/
def Obligations.EveryCommandGoesOnAndKeepsTheQueue : Prop :=
  ∀ (c : Instr) (s : State), ∃ t : State, exec c s = .next t ∧ t.pending = s.pending

/-- The power-on values of chapters 1 to 10 (R23, R25, R58, R76, R79, R80, R119, R136, R143, R147, R178, R193). No cycle mark is on its way to a
block, which is the model's inference (log entry 7). -/
def Obligations.ResetHoldsThePowerOnValues : Prop :=
  (∀ i : Fin 32, State.reset.context i = Context.free)
    ∧ (Context.free.state = .free ∧ Context.free.key = none ∧ Context.free.held = false ∧ Context.free.variant = 0
      ∧ Context.free.mode = .auto ∧ Context.free.missPolicy = .drop ∧ Context.free.stalePolicy = .discard
      ∧ Context.free.descriptor = none ∧ Context.free.epoch = 0 ∧ Context.free.lifetime = 8
      ∧ Context.free.remaining = 0 ∧ Context.free.silenceLimit = 0 ∧ Context.free.silenceCount = 0
      ∧ Context.free.silentReported = false ∧ Context.free.activeProfile = none ∧ Context.free.newProfile = false
      ∧ Context.free.tracker = .resync ∧ Context.free.outputSeq = 0 ∧ Context.free.quota = 0
      ∧ Context.free.budget = 0 ∧ Context.free.reportMask = 4095 ∧ Context.free.latch = []
      ∧ Context.free.counters.toList = List.replicate 11 0)
    ∧ (State.reset.resetHeld = false ∧ State.reset.fieldLink = { up := false, locking := false, midFrame := false }
      ∧ State.reset.controlLink = { up := false, locking := false, midFrame := false }
      ∧ State.reset.fieldTx = none ∧ State.reset.controlTx = none ∧ State.reset.downQueue = []
      ∧ State.reset.upQueue = [] ∧ State.reset.cycleSlot = none ∧ State.reset.measuresSincePass = 0
      ∧ State.reset.part.toList = List.replicate 24 0 ∧ State.reset.streamMap = []
      ∧ State.reset.lastCycle = none
      ∧ State.reset.marks = { silence := 0, lifetime := 0, budget := 0, commit := 0, capture := 0 })
    ∧ (State.reset.selectionMap = [] ∧ State.reset.profiles = [] ∧ State.reset.generation = 0
      ∧ State.reset.staging = [] ∧ State.reset.commitPending = false ∧ State.reset.measureQueue = []
      ∧ State.reset.commandQueue = [] ∧ State.reset.executing = false ∧ State.reset.recent = []
      ∧ State.reset.capture = none)
    ∧ State.reset.reports = [] ∧ State.reset.reservations = 0 ∧ State.reset.nextReportSeq = 0
    ∧ State.reset.path = .running ∧ State.reset.retryTimer = none ∧ State.reset.retryCount = 0
    ∧ State.reset.retryInterval = 20 ∧ State.reset.retryLimit = 4 ∧ State.reset.scan = .part
    ∧ State.reset.partLatch = [(PartKind.restarted.code, { count := 1, detail := [1] })]

/-- R193: a low of 10 µs or more on RESET_N ends in a power-on; a shorter one in a power-on or in nothing, and which is a
free value (log entry 2); while RESET_N is low nothing but its release is taken (log entry 3). That the length of the low
is POWER_ON's operand, and that POWER_ON is taken also where RESET_N was not seen low, is the model's choice (log entry
4). -/
def Obligations.ReleaseOfResetIsPowerOn : Prop :=
  (∀ (ns : Nat) (s : State), 10000 ≤ ns →
      exec (.powerOn ns) s = .next { State.reset with pending := s.pending, draws := s.draws })
    ∧ (∀ (ns : Nat) (s : State), ns < 10000 →
      exec (.powerOn ns) s = .next { State.reset with pending := s.pending, draws := s.draws + 1 }
        ∨ exec (.powerOn ns) s = .next { s with draws := s.draws + 1, resetHeld := false })
    ∧ (∀ s : State, exec .resetNLow s = .next { s with resetHeld := true })
    ∧ ∀ (c : Instr) (s : State), s.resetHeld = true → (∀ ns, c ≠ .powerOn ns) → exec c s = .next s

/-! ### Links (chapter 10) -/

/-- R180, R189, R190: the lock of a DOWN link starts and abandons its interval, and the end of the interval makes the
link UP, latches FIELD_UP for the field link alone, and lets the transmitter choose. A link that is UP takes no notice of
lock, and an interval that does not run does not end (log entry 6). -/
def Obligations.HeldLockBringsTheLinkUp : Prop :=
  ∀ s : State, s.resetHeld = false →
    (∀ p : Port, (s.link p).up = false →
      exec (.symbolLockGained p) s = .next (s.setLink p { s.link p with locking := true })
        ∧ exec (.symbolLockLost p) s = .next (s.setLink p { s.link p with locking := false }))
    ∧ (∀ p : Port, (s.link p).up = true →
      exec (.symbolLockGained p) s = .next s ∧ exec (.symbolLockLost p) s = .next s)
    ∧ (s.fieldLink.up = false → s.fieldLink.locking = true →
      exec .fieldLinkUp s
        = .next
          (fieldChoose
            { s with
              fieldLink := { up := true, locking := false, midFrame := false }
              partLatch := latchAdd 4 .latest [] s.partLatch }))
    ∧ (s.controlLink.up = false → s.controlLink.locking = true →
      exec .controlLinkUp s
        = .next (arbitrate { s with controlLink := { up := true, locking := false, midFrame := false } }))
    ∧ (s.fieldLink.up = true ∨ s.fieldLink.locking = false → exec .fieldLinkUp s = .next s)
    ∧ (s.controlLink.up = true ∨ s.controlLink.locking = false → exec .controlLinkUp s = .next s)

/-- R24, R31, R158, R173, R188: field-link loss. -/
def Obligations.FieldLinkLossReturnsContextsToBound : Prop :=
  ∀ s : State, s.resetHeld = false → s.fieldLink.up = true →
    let copies :=
      (if s.cycleSlot = none then 0 else 1)
        + (match s.fieldTx with | some (.cycleCopy _) => 1 | some (.pass _) => 0 | none => 0)
    let moved :=
      s.contexts.toList.countP fun c => c.state = .unmapped || c.state = .active || c.state = .stale
    let lost : State :=
      { s with
        fieldLink := { up := false, locking := false, midFrame := false }
        fieldTx := none
        downQueue := []
        cycleSlot := none
        part :=
          { s.part with
            passDropped := satAdd s.part.passDropped s.downQueue.length
            copiesDropped := satAdd s.part.copiesDropped copies }
        contexts :=
          contextTable fun i =>
            if (s.context i).state = .free then s.context i
            else
              { s.context i with
                state := .bound, descriptor := none, activeProfile := none, epoch := 0, remaining := 0,
                tracker := .resync, silenceCount := 0, silentReported := false, newProfile := false }
        partLatch := latchAdd 3 .latest [natWord moved] s.partLatch }
    (s.capture = none → exec .fieldLinkLoss s = .next (arbitrate lost))
      ∧ ∀ k, s.capture = some k →
        exec .fieldLinkLoss s
          = .next
            (arbitrate
              (endsFlushing .linkDown k.stage.code (earlyEndWords k s.staging.length)
                { lost with capture := none }))

/-- R25, R92, R119, R142, R173, R179, R190: control-link loss. -/
def Obligations.ControlLinkLossDiscardsCommandsAndReports : Prop :=
  ∀ s : State, s.resetHeld = false → s.controlLink.up = true →
    exec .controlLinkLoss s
      = .next
        { s with
          controlLink := { up := false, locking := false, midFrame := false }
          controlTx := none
          upQueue := []
          measuresSincePass := 0
          part := { s.part with passDropped := satAdd s.part.passDropped s.upQueue.length }
          lastCycle := none
          commitPending := false
          measureQueue := []
          commandQueue := []
          executing := false
          recent := []
          capture := none
          reports := []
          reservations := 0
          nextReportSeq := 0
          path := .running
          retryTimer := none
          retryCount := 0
          partLatch := latchAdd 2 .latest [natWord s.reports.length, natWord s.commandQueue.length] s.partLatch }

/-- An event whose precondition does not hold changes nothing: link loss of a DOWN link, the end of a frame that is not
being sent, the expiry of a stopped timer, an emission that R174 does not allow, and a mark that no cycle brought. The
spec states no such event; that it changes nothing is the model's choice (log entries 6 and 7). -/
def Obligations.EventWithoutItsConditionChangesNothing : Prop :=
  ∀ s : State, s.resetHeld = false →
    (s.fieldLink.up = false → exec .fieldLinkLoss s = .next s)
    ∧ (s.controlLink.up = false → exec .controlLinkLoss s = .next s)
    ∧ (s.fieldTx = none → exec (.transmissionEnd .field) s = .next s)
    ∧ (s.controlTx = none → exec (.transmissionEnd .control) s = .next s)
    ∧ (s.retryTimer = none → exec .retryTimerExpiry s = .next s)
    ∧ (s.controlLink.up = false ∨ 11 < s.reports.length + s.reservations
        ∨ (s.partLatch = [] ∧ ∀ i : Fin 32, (s.context i).latch = []) →
      exec .emission s = .next s)
    ∧ (s.marks.silence = 0 → exec .silenceSupervision s = .next s)
    ∧ (s.marks.lifetime = 0 → exec .lifetimeCountdown s = .next s)
    ∧ (s.marks.budget = 0 → exec .budgetReload s = .next s)
    ∧ (s.marks.commit = 0 → exec .commit s = .next s)
    ∧ (s.marks.capture = 0 → exec .captureCycleMark s = .next s)

/-! ### Frames (chapter 10) -/

/-- R181, R182, R191: the checks of a port in their order, and the counter of the first that fails: length below 4 or
above 64 words, CRC, the length field, kind code and reserved bits, and the combinations of R182. The frame adds 1 to that
counter and changes nothing else but that the receiver is outside a frame again (log entry 10); a frame at a DOWN link
changes nothing. It holds for every row that is a frame (log entry 8). A start symbol inside a frame counts the partial frame
as a length error and begins a new frame. A frame that passes is counted as good. -/
def Obligations.DamagedAndPartialFramesAreCountedOnce : Prop :=
  (∀ (c : Instr) (p : Port) (ws : List Word) (s : State), c.frame? = some (p, ws) → s.resetHeld = false →
      let countedAs (field control : Nat) : Prop :=
        ∃ t : State,
          exec c s = .next t
            ∧ t = { s.setLink p { s.link p with midFrame := false } with part := t.part }
            ∧ t.part.toList
              = s.part.toList.modify ((match p with | .field => field | .control => control) - 1) fun n => satAdd n 1
      ((s.link p).up = false → exec c s = .next s)
      ∧ ((s.link p).up = true →
        (ws.length < 4 ∨ 64 < ws.length → countedAs 3 11)
        ∧ (4 ≤ ws.length → ws.length ≤ 64 →
          (ws.getLast? ≠ some (crc ws.dropLast) → countedAs 2 10)
          ∧ ∀ (w0 w1 w2 : Word) (rest : List Word), ws = w0 :: w1 :: w2 :: rest →
            ws.getLast? = some (crc ws.dropLast) →
            let lengthBad : Prop := 60 < w2.toNat % 64 ∨ ws.length ≠ w2.toNat % 64 + 4
            let kind : Nat := w0.toNat / 4096
            let headerBad : Prop :=
              kind = 0 ∨ 7 < kind ∨ w0.toNat % 4 ≠ 0 ∨ w1.toNat % 32 ≠ 0 ∨ w2.toNat / 64 ≠ 0
            (lengthBad → countedAs 3 11)
            ∧ (¬ lengthBad → headerBad → countedAs 4 12)
            ∧ (¬ lengthBad → ¬ headerBad →
              (∀ u, ¬ AcceptedCombination p kind (w0.toNat / 128 % 32) (w0.toNat / 4 % 32) u) →
              countedAs 5 13))))
    ∧ (∀ s : State, s.resetHeld = false →
        (s.fieldLink.up = true →
          exec (.startSymbolInFrame .field) s
            = .next
              { s with
                fieldLink := { s.fieldLink with midFrame := true }
                part := { s.part with fieldLength := satAdd s.part.fieldLength 1 } })
        ∧ (s.controlLink.up = true →
          exec (.startSymbolInFrame .control) s
            = .next
              { s with
                controlLink := { s.controlLink with midFrame := true }
                part := { s.part with controlLength := satAdd s.part.controlLength 1 } })
        ∧ ∀ p, (s.link p).up = false → exec (.startSymbolInFrame p) s = .next s)
    ∧ ∀ s : State,
      heardAt .field s
          = { s with
              fieldLink := { s.fieldLink with midFrame := false }
              part := { s.part with fieldGood := satAdd s.part.fieldGood 1 } }
        ∧ heardAt .control s
          = { s with
              controlLink := { s.controlLink with midFrame := false }
              part := { s.part with controlGood := satAdd s.part.controlGood 1 } }

/-- R181, R182, R194: the frames a port hands on are exactly those of the layout of R194 with at most 60 payload words and
a kind, destination and source of one of the six rows of R182, and it reads every field as it was built. -/
def Obligations.GoodFramesAreExactlyTheBuiltOnes : Prop :=
  ∀ (p : Port) (ws : List Word) (u : FrameUse) (f : Frame),
    receive p ws = .good u f
      ↔ ∃ kind dst : Nat,
          ws = layout kind dst f.src.toNat f.seq.toNat f.channel.toNat f.payload
            ∧ f.payload.length ≤ 60 ∧ f.words = ws ∧ AcceptedCombination p kind dst f.src.toNat u

/-- R122, R195: the 21 command codes, and the row of the table that the words of a COMMAND frame are: the row of its code,
which for RESELECT, COUNTERS-READ and RESET-PART the target or the scope chooses; no row with any other code. -/
def Obligations.CommandWordsAreTheirRow : Prop :=
  (∀ q : QueuedCode,
      q.toByte
        = match q with
          | .nop => 1 | .bind => 2 | .unbind => 3 | .setContext => 4 | .hold => 5 | .resume => 6 | .reselect => 7
          | .contextRead => 8 | .countersRead => 9 | .mapWrite => 10 | .mapRead => 11 | .profileStage => 12
          | .profileDiscard => 13 | .profileCommit => 14 | .profileRead => 15 | .setPart => 16 | .capture => 17)
    ∧ (∀ i : ImmediateCode,
      i.toByte = match i with | .ackReports => 32 | .abort => 33 | .status => 34 | .resetPart => 35)
    ∧ ∀ (seq tag code : Byte) (channel : BitVec 3) (target : Word) (params : List Word), params.length ≤ 58 →
      let ws := commandWords seq channel code tag target params
      let is (row : Port → List Word → Instr) : Prop := frameCommand .control ws = some (row .control ws)
      (code = 1 → is .nop) ∧ (code = 2 → is .bind) ∧ (code = 3 → is .unbind) ∧ (code = 4 → is .setContext)
      ∧ (code = 5 → is .hold) ∧ (code = 6 → is .resume)
      ∧ (code = 7 → target ≠ 255 → is .reselect) ∧ (code = 7 → target = 255 → is .reselectAll)
      ∧ (code = 8 → is .contextRead)
      ∧ (code = 9 → target ≠ 255 → is .countersRead) ∧ (code = 9 → target = 255 → is .countersReadPart)
      ∧ (code = 10 → is .mapWrite) ∧ (code = 11 → is .mapRead) ∧ (code = 12 → is .profileStage)
      ∧ (code = 13 → is .profileDiscard) ∧ (code = 14 → is .profileCommit) ∧ (code = 15 → is .profileRead)
      ∧ (code = 16 → is .setPart) ∧ (code = 17 → is .capture) ∧ (code = 32 → is .ackReports)
      ∧ (code = 33 → is .abort) ∧ (code = 34 → is .status)
      ∧ (code = 35 → params.head? = some 0 → is .resetPartFull)
      ∧ (code = 35 → params.head? = some 1 → is .resetPartContexts)
      ∧ (code = 35 → params.head? ≠ some 0 → params.head? ≠ some 1 → frameCommand .control ws = none)
      ∧ (code.toNat = 0 ∨ (17 < code.toNat ∧ code.toNat < 32) ∨ 35 < code.toNat →
        frameCommand .control ws = none)

/-- R173, R183: a PASS frame is queued whole below 8 frames, and at a full queue it is dropped, counted and latched with
its direction. -/
def Obligations.PassFramesQueueOrDrop : Prop :=
  ∀ (s : State) (ws : List Word) (f : Frame),
    (HearsFrame s .field ws .passUp f →
      let h := heardAt .field s
      exec (.passUp .field ws) s
        = .next
          (arbitrate
            (if s.upQueue.length < 8 then { h with upQueue := s.upQueue ++ [ws] }
            else
              { h with
                part := { h.part with passDropped := satAdd s.part.passDropped 1 }
                partLatch := latchAdd 7 .addAll [1, 0] s.partLatch })))
    ∧ (HearsFrame s .control ws .passDown f →
      let h := heardAt .control s
      exec (.passDown .control ws) s
        = .next
          (fieldChoose
            (if s.downQueue.length < 8 then { h with downQueue := s.downQueue ++ [ws] }
            else
              { h with
                part := { h.part with passDropped := satAdd s.part.passDropped 1 }
                partLatch := latchAdd 7 .addAll [0, 1] s.partLatch })))

/-- R26 to R30: a CYCLE frame of one payload word is a duplicate, or is taken as a mark, after a skip is counted and
latched; its copy goes to the slot; any other payload length is malformed. -/
def Obligations.CycleFrameBecomesAMark : Prop :=
  ∀ (s : State) (ws : List Word) (f : Frame), HearsFrame s .control ws .cycle f →
    let h := heardAt .control s
    (f.payload.length ≠ 1 →
      exec (.cycle .control ws) s
        = .next
          (fieldChoose
            { h with part := { h.part with cyclesMalformed := satAdd s.part.cyclesMalformed 1 } }))
    ∧ ∀ r : Word, f.payload = [r] →
      (s.lastCycle = some r →
        exec (.cycle .control ws) s
          = .next
            (fieldChoose
              { h with part := { h.part with cycleDuplicates := satAdd s.part.cycleDuplicates 1 } }))
      ∧ (s.lastCycle ≠ some r →
        let skip : Bool := s.lastCycle.any fun n => r ≠ n + 1
        exec (.cycle .control ws) s
          = .next
            (fieldChoose
              { h with
                lastCycle := some r
                cycleSlot := some r
                marks :=
                  { silence := s.marks.silence + 1, lifetime := s.marks.lifetime + 1,
                    budget := s.marks.budget + 1, commit := s.marks.commit + 1, capture := s.marks.capture + 1 }
                part :=
                  { h.part with
                    cyclesTaken := satAdd s.part.cyclesTaken 1
                    copiesReplaced :=
                      if s.cycleSlot = none then s.part.copiesReplaced else satAdd s.part.copiesReplaced 1
                    cycleSkips := if skip then satAdd s.part.cycleSkips 1 else s.part.cycleSkips }
                partLatch :=
                  if skip then latchAdd 5 .latest [s.lastCycle.getD 0 + 1, r] s.partLatch else s.partLatch }))

/-! ### Latches (chapter 9) -/

/-- R172: a first occurrence makes an entry with count 1; a further one counts, saturating at 255, and takes the latest
detail, or adds to the counting words, saturating at 65535; no other kind of the latch changes; and a context kind outside
the report mask is not latched. R11: the twelve context kinds by their numbers. -/
def Obligations.LatchingCountsAndCoalesces : Prop :=
  (∀ (code : BitVec 4) (how : Coalescing) (detail : List Word) (l : Latch) (other : BitVec 4),
      Table.get other (latchAdd code how detail l)
        = if other ≠ code then Table.get other l
          else
            match Table.get code l with
            | none => some { count := 1, detail := detail }
            | some e =>
              some
                { count := if e.count = 255 then 255 else e.count + 1
                  detail := coalesce how e.detail detail })
    ∧ (∀ old new : List Word, coalesce .latest old new = new)
    ∧ (∀ (o n : Word) (old new : List Word),
      coalesce .addFirst (o :: old) (n :: new) = BitVec.ofNat 16 (min 65535 (o.toNat + n.toNat)) :: new)
    ∧ (∀ (old new : List Word) (k : Nat) (o n : Word), old[k]? = some o → new[k]? = some n →
      (coalesce .addAll old new)[k]? = some (BitVec.ofNat 16 (min 65535 (o.toNat + n.toNat))))
    ∧ ∀ (k : ContextKind) (detail : List Word) (c : Context),
      let number : Nat :=
        match k with
        | .descNew => 1 | .descChanged => 2 | .descInvalid => 3 | .descStale => 4 | .selectMiss => 5
        | .profileRetired => 6 | .gap => 7 | .silent => 8 | .overBudget => 9 | .queueOverflow => 10
        | .discarding => 11 | .sampleMalformed => 12
      c.latchKind k detail
        = if c.reportMask.toNat / 2 ^ (number - 1) % 2 = 1 then
            { c with
              latch :=
                latchAdd (BitVec.ofNat 4 number)
                  (match k with
                    | .gap => .addFirst | .overBudget => .addFirst
                    | .queueOverflow => .addAll | .discarding => .addAll
                    | _ => .latest)
                  detail c.latch }
          else c

/-! ### Work at a cycle mark (chapters 2, 3, 5, 6, 8) -/

/-- R34, R35: silence supervision. -/
def Obligations.SilenceIsCountedAndLatchedOnce : Prop :=
  ∀ (s : State) (n : Nat), s.resetHeld = false → s.marks.silence = n + 1 →
    ∃ t : State,
      exec .silenceSupervision s = .next t
        ∧ t = { s with marks := { s.marks with silence := n }, contexts := t.contexts }
        ∧ ∀ i : Fin 32,
          let c := s.context i
          let count : BitVec 4 := if c.silenceCount = 15 then 15 else c.silenceCount + 1
          t.context i
            = if c.state = .free ∨ c.silenceLimit = 0 then c
              else if count = c.silenceLimit ∧ c.silentReported = false then
                Context.latchKind .silent [c.silenceLimit.setWidth 16, c.outputSeq.setWidth 16]
                  { c with silenceCount := count, silentReported := true }
              else { c with silenceCount := count }

/-- R49, R50, R156: the lifetime countdown, and the end of a capture whose context it turns STALE. That a counted context
whose remaining is 0 already turns STALE too is the model's choice for a state that no run reaches (log entry 14). -/
def Obligations.LifetimeRunsOutIntoStale : Prop :=
  ∀ (s : State) (n : Nat), s.resetHeld = false → s.marks.lifetime = n + 1 →
    let counted (c : Context) : Bool := c.descriptor.isSome && c.lifetime ≠ 0 && c.state ≠ .stale
    let after (c : Context) : Context :=
      if counted c then
        if c.remaining = 0 ∨ c.remaining = 1 then
          Context.latchKind .descStale [c.lifetime.setWidth 16, c.epoch.setWidth 16]
            { c with remaining := 0, state := .stale }
        else { c with remaining := c.remaining - 1 }
      else c
    let t : State :=
      { s with
        marks := { s.marks with lifetime := n }
        contexts := contextTable fun i => after (s.context i) }
    (∀ k, s.capture = some k → counted (s.context k.context) = true → (s.context k.context).remaining.toNat ≤ 1 →
      exec .lifetimeCountdown s
        = .next
          (arbitrate
            (endsFlushing .stale k.stage.code (earlyEndWords k s.staging.length) { t with capture := none })))
    ∧ ((∀ k, s.capture = some k →
          counted (s.context k.context) = false ∨ 1 < (s.context k.context).remaining.toNat) →
        exec .lifetimeCountdown s = .next (arbitrate t))

/-- R109: the budget reload. -/
def Obligations.BudgetsReloadToTheirQuotas : Prop :=
  ∀ (s : State) (n : Nat), s.resetHeld = false → s.marks.budget = n + 1 →
    ∃ t : State,
      exec .budgetReload s = .next t
        ∧ t = { s with marks := { s.marks with budget := n }, contexts := t.contexts }
        ∧ ∀ i : Fin 32, t.context i = { s.context i with budget := (s.context i).quota }

/-- R86, R91: a mark with a commit pending applies it: every staged record replaces its target's, the contexts are
repaired, and the PROFILE-COMMIT completes DONE at stage 1 with its five words, after which the commands behind it are
taken. With no commit pending the mark does nothing. The fifth word counts as log entry 12 says, and the control
transmitter chooses after the commands behind are taken, which is the model's inference (log entry 9). -/
def Obligations.CommitAppliesTheStagingArea : Prop :=
  ∀ (s : State) (n : Nat), s.resetHeld = false → s.marks.commit = n + 1 →
    let m : State := { s with marks := { s.marks with commit := n } }
    (s.commitPending = false → exec .commit s = .next m)
    ∧ ∀ c rest, s.commitPending = true → s.commandQueue = c :: rest → (s.staging.map Staged.target).Nodup →
      ∃ table : Table 6 Profile,
        (∀ p,
          Table.get p table
            = match stagedRecord p s.staging with
              | some record => record
              | none => Table.get p s.profiles)
        ∧ let repaired (i : Fin 32) : Repair :=
            repairContext s.selectionMap s.profiles table s.staging (s.generation + 1) (s.context i)
          exec .commit s
            = .next
              (arbitrate
                (runQueue rest
                  (queueReport
                    (finalBody c .done 1
                      [natWord s.staging.length, s.generation + 1,
                        natWord (s.staging.countP fun e => e.record.isNone),
                        natWord ((List.finRange 32).countP fun i => (repaired i).lost),
                        natWord ((List.finRange 32).countP fun i => (repaired i).gained)])
                    { m with
                      profiles := table
                      staging := []
                      generation := s.generation + 1
                      commitPending := false
                      contexts := contextTable fun i => (repaired i).context
                      reservations := s.reservations - 1
                      commandQueue := rest
                      executing := false })))

/-- R87, R88, R90: the repair of one context. A context that holds a retired profile loses it, runs if it is AUTO, and
latches PROFILE_RETIRED; an UNMAPPED AUTO context runs; a FIXED one with a descriptor and no profile takes its profile
when that is valid; any other is left alone. That a context which loses a profile and finds another counts as given one
(`gained`) is the model's inference (log entry 12). -/
def Obligations.CommitRepairsEachContext : Prop :=
  ∀ (map : Table 8 (BitVec 6)) (before after : Table 6 Profile) (staging : List Staged) (generation : Word)
      (c : Context),
    let r := repairContext map before after staging generation c
    let retired (p : BitVec 6) : Prop :=
      (Table.get p before).isSome ∧ ∃ e ∈ staging, e.target = p ∧ e.record = none
    (∀ p, c.activeProfile = some p → retired p →
      let bare : Context :=
        { c with activeProfile := none, state := if c.state = .active then .unmapped else c.state }
      let run : Context :=
        match c.mode with
        | .auto => bare.selectionRun map after
        | .fixed q =>
          if c.descriptor.isSome ∧ (Table.get q after).isSome then
            { bare with
              activeProfile := some q, newProfile := true, state := if c.state = .stale then .stale else .active }
          else bare
      r
        = { context :=
              run.latchKind .profileRetired
                [p.setWidth 16, generation,
                  match run.activeProfile with | some q => q.setWidth 16 | none => 0xFFFF]
            lost := true
            gained := run.activeProfile.isSome })
    ∧ (∀ p, c.activeProfile = some p → ¬ retired p → r = { context := c, lost := false, gained := false })
    ∧ (c.activeProfile = none → c.mode = .auto → c.state = .unmapped →
      r
        = { context := c.selectionRun map after, lost := false,
            gained := (c.selectionRun map after).activeProfile.isSome })
    ∧ (c.activeProfile = none → c.mode = .auto → c.state ≠ .unmapped →
      r = { context := c, lost := false, gained := false })
    ∧ ∀ q, c.activeProfile = none → c.mode = .fixed q →
      if c.descriptor.isSome ∧ (Table.get q after).isSome then
        r
          = { context :=
                { c with
                  activeProfile := some q, newProfile := true,
                  state := if c.state = .stale then .stale else .active }
              lost := false
              gained := true }
      else r = { context := c, lost := false, gained := false }

/-- R149, R151: the arming mark, a counted cycle, and the timeout at stage 2; with no capture the mark does nothing. R147:
the numbers of the two stages. -/
def Obligations.CaptureMarkArmsCountsOrTimesOut : Prop :=
  CaptureStage.armed.code = 1 ∧ CaptureStage.collecting.code = 2 ∧
  ∀ (s : State) (n : Nat), s.resetHeld = false → s.marks.capture = n + 1 →
    let m : State := { s with marks := { s.marks with capture := n } }
    (s.capture = none → exec .captureCycleMark s = .next m)
    ∧ ∀ k, s.capture = some k →
      (k.stage = .armed →
        exec .captureCycleMark s = .next { m with capture := some { k with stage := .collecting, cycles := 0 } })
      ∧ (k.stage = .collecting → ¬ (k.cycles + 1 = k.t ∧ k.count < k.n) →
        exec .captureCycleMark s = .next { m with capture := some { k with cycles := k.cycles + 1 } })
      ∧ (k.stage = .collecting → k.cycles + 1 = k.t → k.count < k.n →
        exec .captureCycleMark s
          = .next
            (arbitrate
              (endsFlushing .timeout 2 (earlyEndWords { k with cycles := k.t } s.staging.length)
                { m with capture := none })))

/-! ### SAMPLE frames (chapter 6) -/

/-- R1, R96, R97, R99: a SAMPLE or a DESCRIBE frame of a key that is not in the Stream Map is unbound traffic, and a
SAMPLE frame 1 to 128 behind its tracker is counted as a duplicate and moves nothing. -/
def Obligations.UnboundAndOldFramesAreDiscarded : Prop :=
  ∀ (s : State) (ws : List Word) (f : Frame),
    let h := heardAt .field s
    let unbound (kind : Word) : State :=
      { h with
        partLatch :=
          latchAdd 6 .latest [natWord (256 * f.src.toNat + f.channel.toNat), kind] s.partLatch }
    (HearsFrame s .field ws .sample f → s.resolve (frameKey f) = none →
      exec (.sample .field ws) s = .next (arbitrate (unbound 1)))
    ∧ (HearsFrame s .field ws .describe f → s.resolve (frameKey f) = none →
      exec (.describe .field ws) s = .next (arbitrate (unbound 2)))
    ∧ ∀ i e, HearsFrame s .field ws .sample f → s.resolve (frameKey f) = some i →
      (s.context i).tracker = .expect e → 128 ≤ (f.seq - e).toNat →
      exec (.sample .field ws) s
        = .next
          (arbitrate
            (h.setContext i
              { s.context i with
                counters :=
                  { (s.context i).counters with duplicates := satAdd (s.context i).counters.duplicates 1 } }))

/-- R98, R100, R101, R102, R106: an accepted frame is tracked and counted, ends the silence, and is discarded for want of a
descriptor, or is malformed when its length does not fit the encoding (R55). -/
def Obligations.SampleIsTurnedAsideAtTheLengthCheck : Prop :=
  ∀ (s : State) (ws : List Word) (f : Frame) (i : Fin 32) (d : Nat),
    HearsFrame s .field ws .sample f → s.resolve (frameKey f) = some i → AcceptsAfter (s.context i) f.seq d →
      let c := acceptedRecord f.seq d (s.context i)
      (c.descriptor = none →
        exec (.sample .field ws) s
          = .next
            (arbitrate
              ((heardAt .field s).setContext i
                (Context.latchKind .discarding [1, 0, 0, 0]
                  { c with counters := { c.counters with discarded := satAdd c.counters.discarded 1 } }))))
      ∧ ∀ desc, c.descriptor = some desc →
        (if desc.encoding = .signed24 then
            f.payload.length % 2 = 1 ∨ f.payload.length < 2 ∨ 32 < f.payload.length
          else f.payload.length < 1 ∨ 16 < f.payload.length) →
        exec (.sample .field ws) s
          = .next
            (arbitrate
              ((heardAt .field s).setContext i
                (Context.latchKind .sampleMalformed [natWord f.payload.length, desc.encoding.code.setWidth 16]
                  { c with counters := { c.counters with malformed := satAdd c.counters.malformed 1 } })))

/-- R104 to R116: steps 4 to 8 of an accepted frame whose payload fits, in every state: discarded by the first row of R104's
table that applies, or conditioned, and then dropped for the budget, dropped for the queue, or queued as a MEASURE frame.
At a context that no capture collects on, this is all that follows the tracking of the frame; what a capture adds before and
after it is said by `Obligations.TappedSamplesAreCollected` and `Obligations.LastSampleCompletesTheCapture`. -/
def Obligations.SampleIsDiscardedDroppedOrMeasured : Prop :=
  (∀ (s : State) (i : Fin 32) (gap : Bool) (raws : List Int),
    let c := s.context i
    let discarded (detail : List Word) : Prop :=
      deliverSample i gap raws s
        = s.setContext i
          (Context.latchKind .discarding detail
            { c with counters := { c.counters with discarded := satAdd c.counters.discarded 1 } })
    (c.held = true → discarded [0, 1, 0, 0])
    ∧ (c.held = false → c.state = .unmapped → discarded [0, 0, 1, 0])
    ∧ (c.held = false → c.state = .stale → c.stalePolicy = .discard ∨ c.activeProfile = none →
      discarded [0, 0, 0, 1])
    ∧ ∀ key p record, c.key = some key → c.held = false → c.activeProfile = some p →
      Table.get p s.profiles = some record →
      c.state = .active ∨ (c.state = .stale ∧ c.stalePolicy = .forward) →
      let outside (x : Int) : Bool :=
        record.unclamped x < record.clampLow.toInt || record.clampHigh.toInt < record.unclamped x
      let v : Context :=
        { c with
          counters :=
            { c.counters with
              conditioned := satAdd c.counters.conditioned raws.length
              clamped := satAdd c.counters.clamped (raws.countP outside) } }
      deliverSample i gap raws s
        = if 0 < c.quota ∧ c.budget = 0 then
            s.setContext i
              (Context.latchKind .overBudget [1, natWord c.quota]
                { v with counters := { v.counters with budgetDrops := satAdd v.counters.budgetDrops 1 } })
          else if 32 ≤ s.measureQueue.length then
            s.setContext i
              (Context.latchKind .queueOverflow [1]
                { v with counters := { v.counters with queueDrops := satAdd v.counters.queueDrops 1 } })
          else
            State.setContext i
              { v with
                outputSeq := c.outputSeq + 1
                budget := if 0 < c.quota then c.budget - 1 else c.budget
                newProfile := false }
              { s with
                measureQueue :=
                  s.measureQueue
                    ++ [{ channel := key.channel, seq := c.outputSeq, context := i, stale := c.state = .stale,
                          gap := gap, clamped := raws.any outside, newProfile := c.newProfile,
                          unit := record.unit, profile := p, epoch := c.epoch, generation := s.generation,
                          values := raws.map record.deliver }] })
    ∧ ∀ (s : State) (ws : List Word) (f : Frame) (i : Fin 32) (d : Nat) (desc : Descriptor),
      HearsFrame s .field ws .sample f → s.resolve (frameKey f) = some i → AcceptsAfter (s.context i) f.seq d →
      (s.context i).descriptor = some desc → AllowedLength desc.encoding f.payload.length → NotTapped s i →
        exec (.sample .field ws) s
          = .next
            (arbitrate
              (deliverSample i (0 < d) (rawSamples desc.encoding f.payload)
                ((heardAt .field s).setContext i (acceptedRecord f.seq d (s.context i)))))

/-- R54: the codes of the encodings, the raw integer of each, with the guide's own examples, and the samples of a payload in
its order, SIGNED24 high word first. R77, R78: the conversion over the integers: the floor of the scaled difference plus the
output offset, clamped to the limits. -/
def Obligations.SamplesAreDecodedAndConverted : Prop :=
  ((∀ w : Word,
        rawOfWord .unsigned12 w = w.toNat % 4096
          ∧ rawOfWord .signed12 w = (if w.toNat % 4096 < 2048 then (w.toNat % 4096 : Int) else w.toNat % 4096 - 4096)
          ∧ rawOfWord .unsigned16 w = w.toNat
          ∧ rawOfWord .signed16 w = (if w.toNat < 32768 then (w.toNat : Int) else w.toNat - 65536))
        ∧ (∀ hi lo : Word,
          let n : Nat := hi.toNat % 256 * 65536 + lo.toNat
          rawOfPair hi lo = if n < 8388608 then (n : Int) else n - 16777216)
        ∧ (∀ e : Encoding,
          e.code = (match e with
            | .unsigned12 => 0 | .signed12 => 1 | .unsigned16 => 2 | .signed16 => 3 | .signed24 => 4)
          ∧ rawSamples e [] = [])
        ∧ (∀ (hi lo : Word) (rest : List Word),
          rawSamples .signed24 (hi :: lo :: rest) = rawOfPair hi lo :: rawSamples .signed24 rest)
        ∧ (∀ (e : Encoding) (w : Word) (rest : List Word), e ≠ .signed24 →
          rawSamples e (w :: rest) = rawOfWord e w :: rawSamples e rest)
        ∧ rawOfWord .unsigned12 0xF800 = 2048 ∧ rawOfWord .signed12 0xF800 = -2048
        ∧ rawOfWord .unsigned16 0xF800 = 63488 ∧ rawOfWord .signed16 0xF800 = -2048 ∧ rawOfPair 0x12FF 0xFFFE = -2)
    ∧ (∀ (p : Profile) (x : Int), p.clampLow.toInt ≤ p.clampHigh.toInt →
        ∃ u : Int,
          u * 2 ^ p.shift.toNat ≤ (x - p.inputOffset.toInt) * p.gain.toInt
            ∧ (x - p.inputOffset.toInt) * p.gain.toInt < (u + 1) * 2 ^ p.shift.toNat
            ∧ p.unclamped x = u + p.outputOffset.toInt
            ∧ (p.deliver x).toInt = max p.clampLow.toInt (min p.clampHigh.toInt (u + p.outputOffset.toInt))
            ∧ (p.clampsAt x = true ↔ (p.deliver x).toInt ≠ u + p.outputOffset.toInt))

/-! ### Capture (chapter 8) -/

/-- R103, R150: a frame that reaches the tap of a collecting capture and leaves the count below N is collected whole, and
its handling goes on with steps 4 to 8. -/
def Obligations.TappedSamplesAreCollected : Prop :=
  ∀ (s : State) (ws : List Word) (f : Frame) (i : Fin 32) (d : Nat) (desc : Descriptor) (k : Capture),
    HearsFrame s .field ws .sample f → s.resolve (frameKey f) = some i → AcceptsAfter (s.context i) f.seq d →
    (s.context i).descriptor = some desc → AllowedLength desc.encoding f.payload.length →
    s.capture = some k → k.context = i → k.stage = .collecting →
      let raws := rawSamples desc.encoding f.payload
      k.count + raws.length < k.n →
        exec (.sample .field ws) s
          = .next
            (arbitrate
              (deliverSample i (0 < d) raws
                { (heardAt .field s).setContext i (acceptedRecord f.seq d (s.context i)) with
                  capture :=
                    some
                      { k with
                        sum := k.sum + raws.sum
                        count := k.count + raws.length
                        gaps := k.gaps + (if 0 < d then 1 else 0) } }))

/-- R150, R152 to R155: the frame that brings the count to N completes the capture: the samples up to N are collected, the
result is computed from the source and staged, the report is queued before the frame's steps 4 to 8, and the commands
behind are taken after them; a result that cannot be formed or staged flushes them instead. That the control transmitter
chooses after all of this is the model's inference (log entry 9). -/
def Obligations.LastSampleCompletesTheCapture : Prop :=
  ∀ (s : State) (ws : List Word) (f : Frame) (i : Fin 32) (d : Nat) (desc : Descriptor) (k : Capture)
      (source : Profile) (cmd : Command) (rest : List Command),
    HearsFrame s .field ws .sample f → s.resolve (frameKey f) = some i → AcceptsAfter (s.context i) f.seq d →
    (s.context i).descriptor = some desc → AllowedLength desc.encoding f.payload.length →
    s.capture = some k → k.context = i → k.stage = .collecting → k.count < k.n → s.commandQueue = cmd :: rest →
    (match k.source with
      | .staging => stagedRecord k.profile s.staging = some (some source)
      | .table => Table.get k.profile s.profiles = some source) →
      let raws := rawSamples desc.encoding f.payload
      let sum := k.sum + (raws.take (k.n - k.count)).sum
      let mean : Int := (2 * sum + k.n) / (2 * k.n)
      let words (field : Int) (staged : Nat) : List Word :=
        [BitVec.ofInt 16 (mean / 65536), BitVec.ofInt 16 mean, natWord k.n,
          natWord (k.gaps + (if 0 < d then 1 else 0)), natWord k.cycles, k.epoch.setWidth 16,
          match k.source with | .table => 0 | .staging => 1,
          BitVec.ofInt 16 (field / 65536), BitVec.ofInt 16 field, natWord staged]
      let reported (o : CommandOutcome) (stage : Byte) (field : Int) (staging : List Staged) : State :=
        deliverSample i (0 < d) raws
          (queueReport (finalBody cmd o stage (words field staging.length))
            { (heardAt .field s).setContext i (acceptedRecord f.seq d (s.context i)) with
              capture := none
              staging := staging
              reservations := s.reservations - 1
              commandQueue := rest
              executing := false })
      let ends (u : State) : Prop := exec (.sample .field ws) s = .next (arbitrate u)
      k.n ≤ k.count + raws.length →
        let made (field : Int) (record : Profile) : Prop :=
          if (∃ e ∈ s.staging, e.target = k.profile) ∨ s.staging.length < 8 then
            ends
              (runQueue rest
                (reported .done 4 field (stageRecord { target := k.profile, record := some record } s.staging)))
          else ends (flush rest (reported .stagingFull 3 field s.staging))
        (k.mode = .zero → made mean { source with inputOffset := BitVec.ofInt 24 mean })
        ∧ (k.mode = .span → ∀ g, spanGain source k.reference mean = some g →
          made g { source with gain := BitVec.ofInt 16 g })
        ∧ (k.mode = .span → spanGain source k.reference mean = none →
          ends (flush rest (reported .spanRange 3 0 s.staging)))

/-- R152, R153: the mean is the sum divided by N, rounded to the nearest integer with a half upward; the gain is a / b
rounded to the nearest integer with a half away from zero, and none when b is 0 or the rounded value is no signed 16-bit
value. -/
def Obligations.CaptureResultsAreRoundedToNearest : Prop :=
  (∀ k : Capture, 1 ≤ k.n →
    2 * k.n * k.mean ≤ 2 * k.sum + k.n ∧ 2 * k.sum + k.n < 2 * k.n * (k.mean + 1))
    ∧ ∀ (source : Profile) (reference : BitVec 32) (mean : Int),
      let a : Int := (reference.toInt - source.outputOffset.toInt) * 2 ^ source.shift.toNat
      let b : Int := mean - source.inputOffset.toInt
      let nearest (g : Int) : Prop :=
        2 * (a - g * b).natAbs ≤ b.natAbs ∧ (2 * (a - g * b).natAbs = b.natAbs → a.natAbs < (g * b).natAbs)
      (b = 0 → spanGain source reference mean = none)
      ∧ (b ≠ 0 → ∃ g, nearest g ∧ (∀ g', nearest g' → g' = g)
        ∧ spanGain source reference mean = if -32768 ≤ g ∧ g ≤ 32767 then some g else none)

/-! ### DESCRIBE frames (chapter 3) -/

/-- R38 to R40: an invalid DESCRIBE frame is counted and latched with the first check that fails and the value found
there, and changes nothing else. -/
def Obligations.InvalidDescribeIsOnlyLatched : Prop :=
  ∀ (s : State) (ws : List Word) (f : Frame) (i : Fin 32),
    HearsFrame s .field ws .describe f → s.resolve (frameKey f) = some i →
      let c := s.context i
      let invalid (detail : List Word) : Prop :=
        exec (.describe .field ws) s
          = .next
            (arbitrate
              ((heardAt .field s).setContext i
                (Context.latchKind .descInvalid detail
                  { c with counters := { c.counters with descriptors := satAdd c.counters.descriptors 1 } })))
      (f.payload.length ≠ 4 → invalid [1, natWord f.payload.length])
      ∧ ∀ w hi lo zero : Word, f.payload = [w, hi, lo, zero] →
        let encoding : Nat := w.toNat / 16 % 16
        (4 < encoding → invalid [2, natWord encoding])
        ∧ (encoding ≤ 4 → 32768 ≤ w.toNat → invalid [3, w])
        ∧ (encoding ≤ 4 → w.toNat < 32768 → zero ≠ 0 → invalid [4, zero])

/-- R41, R42, R43, R44, R45, R46, R156: a valid DESCRIBE frame is the first descriptor, a refresh, or a changed
descriptor, which also ends a capture that runs on the context. -/
def Obligations.ValidDescribeIsFirstIdenticalOrChanged : Prop :=
  ∀ (s : State) (ws : List Word) (f : Frame) (i : Fin 32) (w hi lo : Word) (e : Encoding),
    HearsFrame s .field ws .describe f → s.resolve (frameKey f) = some i → f.payload = [w, hi, lo, 0] →
    w.toNat < 32768 → e.code.toNat = w.toNat / 16 % 16 →
      let c0 := s.context i
      let c : Context :=
        { c0 with counters := { c0.counters with descriptors := satAdd c0.counters.descriptors 1 } }
      let new : Descriptor :=
        { cls := BitVec.ofNat 4 (w.toNat / 2048), range := BitVec.ofNat 3 (w.toNat / 256), encoding := e,
          unit := BitVec.ofNat 4 w.toNat, serial := BitVec.ofNat 32 (hi.toNat * 65536 + lo.toNat) }
      let out : ContextState := if c.activeProfile.isSome then .active else .unmapped
      (c.descriptor = none →
        exec (.describe .field ws) s
          = .next
            (arbitrate
              ((heardAt .field s).setContext i
                ((Context.latchKind .descNew [w, hi, lo, 1]
                  { c with
                    descriptor := some new, epoch := 1, remaining := c.lifetime, tracker := .resync,
                    state := .unmapped }).selectionRun s.selectionMap s.profiles))))
      ∧ (c.descriptor = some new →
        exec (.describe .field ws) s
          = .next
            (arbitrate
              ((heardAt .field s).setContext i
                { c with remaining := c.lifetime, state := if c.state = .stale then out else c.state })))
      ∧ ∀ old oldWord, c.descriptor = some old → old ≠ new →
        oldWord
            = natWord
              (2048 * old.cls.toNat + 256 * old.range.toNat + 16 * old.encoding.code.toNat + old.unit.toNat) →
        let changed : Nat :=
          (if old.cls = new.cls then 0 else 1) + (if old.range = new.range then 0 else 2)
            + (if old.encoding = new.encoding then 0 else 4) + (if old.unit = new.unit then 0 else 8)
            + (if old.serial = new.serial then 0 else 16)
        let u : State :=
          (heardAt .field s).setContext i
            ((Context.latchKind .descChanged [natWord changed, w, oldWord, (c.epoch + 1).setWidth 16]
              { c with
                descriptor := some new, epoch := c.epoch + 1, remaining := c.lifetime, tracker := .resync,
                counters := { c.counters with changes := satAdd c.counters.changes 1 },
                state := if c.state = .stale then out else c.state }).selectionRun s.selectionMap s.profiles)
        (NoCaptureOn s i → exec (.describe .field ws) s = .next (arbitrate u))
        ∧ ∀ k, s.capture = some k → k.context = i →
          exec (.describe .field ws) s
            = .next
              (arbitrate
                (endsFlushing .descChanged k.stage.code (earlyEndWords k s.staging.length)
                  { u with capture := none }))

/-! ### Selection (chapter 4) -/

/-- R59 to R66: a selection run: none without a descriptor; an AUTO run reads the entry class × 16 + range × 2 + variant
and hits, or misses under the policy and latches SELECT_MISS; a FIXED run takes its profile when that is valid; the state
and the new-profile flag follow the profile it leaves. -/
def Obligations.SelectionRunChoosesTheProfile : Prop :=
  ∀ (map : Table 8 (BitVec 6)) (profiles : Table 6 Profile) (c : Context),
    let valid (p : BitVec 6) : Bool := (Table.get p profiles).isSome
    let settled (chosen : Option (BitVec 6)) (c : Context) : Context :=
      { c with
        activeProfile := chosen
        newProfile := if chosen = none ∨ chosen = c.activeProfile then c.newProfile else true
        state := if c.state = .stale then .stale else if chosen = none then .unmapped else .active }
    (c.descriptor = none → c.selectionRun map profiles = c)
    ∧ ∀ d, c.descriptor = some d →
      (∀ p, c.mode = .fixed p →
        c.selectionRun map profiles = settled (if valid p then some p else none) c)
      ∧ (c.mode = .auto →
        let index : Nat := 16 * d.cls.toNat + 2 * d.range.toNat + c.variant.toNat
        let entry := Table.get (BitVec.ofNat 8 index) map
        (∀ p, entry = some p → valid p → c.selectionRun map profiles = settled (some p) c)
        ∧ ((∀ p, entry = some p → valid p = false) →
          let left : Option (BitVec 6) :=
            if c.missPolicy = .retain ∧ c.activeProfile.any valid then c.activeProfile else none
          c.selectionRun map profiles
            = settled left
              (Context.latchKind .selectMiss
                [natWord index,
                  match entry with | some p => p.setWidth 16 | none => 0xFFFF,
                  match left with | some p => p.setWidth 16 | none => 0xFFFF]
                c)))

/-! ### The Command Queue (chapter 7) -/

/-- R130, R131, R133: what follows at the head: the queue runs on through every command that ends DONE, stops at one that
stays, and flushes what stands behind any other. R131: the fields of a final report, its context the target of a command
that acts on a context when that lies from 0 to 31, and 255 otherwise. -/
def Obligations.QueueRunsUntilItStaysOrFails : Prop :=
  (∀ (s : State) (c : Command) (rest : List Command),
    runQueue [] s = { s with commandQueue := [], executing := false }
    ∧ (∀ u, takeHead c s = .stays u →
      runQueue (c :: rest) s = { u with commandQueue := c :: rest, executing := true })
    ∧ (∀ data u, takeHead c s = .ends .done data u →
      runQueue (c :: rest) s
        = runQueue rest (queueReport (finalBody c .done 0 data) { u with reservations := u.reservations - 1 }))
    ∧ ∀ o data u, takeHead c s = .ends o data u → o ≠ .done →
      runQueue (c :: rest) s = endsFlushing o 0 data { u with commandQueue := c :: rest })
    ∧ ∀ (c : Command) (o : CommandOutcome) (stage : Byte) (data : List Word),
      let actsOnContext : Bool :=
        match c.code with
        | .bind | .unbind | .setContext | .hold | .resume | .reselect | .contextRead | .countersRead | .capture => true
        | .nop | .mapWrite | .mapRead | .profileStage | .profileDiscard | .profileCommit | .profileRead
        | .setPart => false
      finalBody c o stage data
        = .completion c.tag c.code.toByte o stage
            (if actsOnContext = true ∧ c.target.toNat ≤ 31 then BitVec.ofNat 8 c.target.toNat else 255) data

/-- R123, R124, R125, R128: admission, for a frame of any COMMAND row that is no duplicate: malformed, refused for the
queue or for report space, or admitted behind the commands that wait. -/
def Obligations.AdmissionRefusesOrQueues : Prop :=
  ∀ (r : Instr) (ws : List Word) (f : Frame) (s : State), r.frame? = some (.control, ws) →
    HearsFrame s .control ws .command f →
      let h := heardCommand s
      let refused (detail : List Word) : Prop :=
        exec r s
          = .next
            (arbitrate
              { h with
                part := { h.part with commandsRefused := satAdd s.part.commandsRefused 1 }
                partLatch := latchAdd 8 .latest detail s.partLatch })
      (f.payload = [] → refused [0xFFFF, 0xFFFF, 1])
      ∧ (∀ w0 : Word, f.payload = [w0] → refused [natWord (w0.toNat % 256), natWord (w0.toNat / 256), 1])
      ∧ ∀ (w0 target : Word) (params : List Word), f.payload = w0 :: target :: params →
        let code := w0.toNat / 256
        let tag := w0.toNat % 256
        (¬ payloadFits code f.payload → refused [natWord tag, natWord code, 1])
        ∧ (payloadFits code f.payload → (BitVec.ofNat 8 tag, BitVec.ofNat 8 code) ∉ s.recent →
          (code < 32 → 4 ≤ s.commandQueue.length → refused [natWord tag, natWord code, 2])
          ∧ (code < 32 → s.commandQueue.length < 4 → 16 ≤ s.reports.length + s.reservations →
            refused [natWord tag, natWord code, 3])
          ∧ (code = 34 → 16 ≤ s.reports.length + s.reservations → refused [natWord tag, natWord code, 3])
          ∧ ∀ q : QueuedCode, code = q.toByte.toNat → 0 < s.commandQueue.length → s.commandQueue.length < 4 →
            s.reports.length + s.reservations < 16 →
            exec r s
              = .next
                (arbitrate
                  { h with
                    reservations := s.reservations + 1
                    commandQueue := s.commandQueue ++ [{ tag := BitVec.ofNat 8 tag, code := q, target, params }]
                    recent :=
                      s.recent.drop (if 8 ≤ s.recent.length then s.recent.length - 7 else 0)
                        ++ [(BitVec.ofNat 8 tag, BitVec.ofNat 8 code)]
                    part := { h.part with commandsAdmitted := satAdd s.part.commandsAdmitted 1 } }))

/-- R127: a duplicate is counted, its arrival is made known to the Report Unit, and nothing else happens. -/
def Obligations.DuplicateIsCountedAndIgnored : Prop :=
  ∀ (r : Instr) (ws : List Word) (f : Frame) (s : State) (w0 target : Word) (params : List Word),
    r.frame? = some (.control, ws) → HearsFrame s .control ws .command f → f.payload = w0 :: target :: params →
    payloadFits (w0.toNat / 256) f.payload →
    (BitVec.ofNat 8 (w0.toNat % 256), BitVec.ofNat 8 (w0.toNat / 256)) ∈ s.recent →
      let h := heardCommand s
      exec r s
        = .next
          (arbitrate { h with part := { h.part with commandDuplicates := satAdd s.part.commandDuplicates 1 } })

/-! ### Queued commands at the head, in the event of their arrival (chapters 1, 4, 5, 6, 7, 8) -/

/-- R135, R136: NOP at the head, in the event of its arrival, behind commands that end DONE, and flushed behind one that
fails; and SET-PART. That a SET-PART whose arrival recovers a STALLED path stores its interval before an idle transmitter
chooses, so that the timer starts with the new one, is the model's inference (log entry 9). -/
def Obligations.NopAndSetPartComplete : Prop :=
  ((∀ (s : State) (target : Word), EndsAtHead .nop .nop target [] s .done [] id)
        ∧ ∀ (c : Command) (rest : List Command) (s : State), c.code = .nop →
          runQueue (c :: rest) s
              = runQueue rest
                (queueReport (.completion c.tag 1 .done 0 255 []) { s with reservations := s.reservations - 1 })
            ∧ ∀ (before : Command) (o : CommandOutcome) (data : List Word),
              endsFlushing o 0 data { s with commandQueue := [before, c] }
                = queueReport (.completion c.tag 1 .flushed 0 255 [])
                  (queueReport (finalBody before o 0 data)
                    { s with reservations := s.reservations - 2, commandQueue := [], executing := false }))
    ∧ (∀ (s : State) (target interval limit : Word),
        let ends := EndsAtHead .setPart .setPart target [interval, limit] s
        if target ≠ 255 ∨ interval.toNat < 1 ∨ 255 < interval.toNat ∨ limit.toNat < 1 ∨ 15 < limit.toNat then
          ends .badParameter [] id
        else
          ends .done [interval, limit] fun u =>
            { u with retryInterval := interval.setWidth 8, retryLimit := limit.setWidth 4 })

/-- R15, R16, R17: BIND and UNBIND. -/
def Obligations.BindAndUnbindMoveTheKey : Prop :=
  (∀ (s : State) (node channel variant mode fixed : Word),
        (∀ target : Word, 31 < target.toNat →
          EndsAtHead .bind .bind target [node, channel, variant, mode, fixed] s .badParameter [] id)
        ∧ ∀ i : Fin 32,
          let ends := EndsAtHead .bind .bind (natWord i) [node, channel, variant, mode, fixed] s
          let key : Key := { node := node.setWidth 5, channel := channel.setWidth 3 }
          if node.toNat < 1 ∨ 29 < node.toNat ∨ 7 < channel.toNat ∨ 1 < variant.toNat ∨ 1 < mode.toNat
              ∨ (mode = 1 ∧ 63 < fixed.toNat) then
            ends .badParameter [] id
          else if (s.context i).state ≠ .free then ends .wrongState [] id
          else if Table.get (BitVec.ofNat 8 (8 * node.toNat + channel.toNat)) s.streamMap ≠ none then
            ends .keyInUse [] id
          else
            ends .done [] fun u =>
              { u with
                streamMap := Table.put (BitVec.ofNat 8 (8 * node.toNat + channel.toNat)) i u.streamMap
                contexts :=
                  u.contexts.set i
                    { Context.free with
                      state := .bound
                      key := some key
                      variant := variant.setWidth 1
                      mode := if mode = 0 then .auto else .fixed (fixed.setWidth 6)
                      latch := (u.context i).latch } })
    ∧ (∀ s : State,
        (∀ target : Word, 31 < target.toNat → EndsAtHead .unbind .unbind target [] s .badParameter [] id)
        ∧ ∀ i : Fin 32,
          let ends := EndsAtHead .unbind .unbind (natWord i) [] s
          ((s.context i).state = .free → ends .wrongState [] id)
          ∧ ∀ key, (s.context i).state ≠ .free → (s.context i).key = some key →
            ends .done [] fun u =>
              { u with
                streamMap := Table.erase (BitVec.ofNat 8 (8 * key.node.toNat + key.channel.toNat)) u.streamMap
                contexts := u.contexts.set i Context.free })

/-- R15, R18, R19, R53: SET-CONTEXT. -/
def Obligations.SetContextStoresTheSelectedGroups : Prop :=
  ∀ (s : State) (select lifetime limit quota stale miss mask mode fixed variant : Word),
    let params := [select, lifetime, limit, quota, stale, miss, mask, mode, fixed, variant]
    (∀ target : Word, 31 < target.toNat →
      EndsAtHead .setContext .setContext target params s .badParameter [] id)
    ∧ ∀ i : Fin 32,
      let ends := EndsAtHead .setContext .setContext (natWord i) params s
      let bit (n : Nat) : Bool := select.toNat / 2 ^ n % 2 = 1
      if select.toNat = 0 ∨ 255 < select.toNat ∨ (bit 0 ∧ 15 < lifetime.toNat) ∨ (bit 1 ∧ 15 < limit.toNat)
          ∨ (bit 2 ∧ 64 < quota.toNat) ∨ (bit 3 ∧ 1 < stale.toNat) ∨ (bit 4 ∧ 1 < miss.toNat)
          ∨ (bit 5 ∧ 4095 < mask.toNat) ∨ (bit 6 ∧ (1 < mode.toNat ∨ (mode = 1 ∧ 63 < fixed.toNat)))
          ∨ (bit 7 ∧ 1 < variant.toNat) then
        ends .badParameter [] id
      else if (s.context i).state = .free then ends .wrongState [] id
      else
        let c := s.context i
        let new : BitVec 4 := lifetime.setWidth 4
        let stored : Context :=
          { c with
            lifetime := if bit 0 then new else c.lifetime
            remaining :=
              if bit 0 then
                if c.descriptor = none ∨ c.state = .stale then 0
                else if c.lifetime = 0 ∧ new ≠ 0 then new
                else if c.remaining.toNat < new.toNat then c.remaining
                else new
              else c.remaining
            silenceLimit := if bit 1 then limit.setWidth 4 else c.silenceLimit
            silenceCount := if bit 1 then 0 else c.silenceCount
            silentReported := if bit 1 then false else c.silentReported
            quota := if bit 2 then quota.toNat else c.quota
            budget := if bit 2 then quota.toNat else c.budget
            stalePolicy := if bit 3 then (if stale = 0 then .discard else .forward) else c.stalePolicy
            missPolicy := if bit 4 then (if miss = 0 then .drop else .retain) else c.missPolicy
            reportMask := if bit 5 then mask.setWidth 12 else c.reportMask
            mode :=
              if bit 6 then (if mode = 0 then .auto else .fixed (fixed.setWidth 6)) else c.mode
            variant := if bit 7 then variant.setWidth 1 else c.variant }
        let after : Context :=
          if stored.mode = c.mode ∧ stored.variant = c.variant then stored
          else stored.selectionRun s.selectionMap s.profiles
        ends .done
          [match after.state with | .free => 0 | .bound => 1 | .unmapped => 2 | .active => 3 | .stale => 4,
            match after.activeProfile with | some p => p.setWidth 16 | none => 0xFFFF]
          fun u => { u with contexts := u.contexts.set i after }

/-- R15, R20, R21: HOLD and RESUME. -/
def Obligations.HoldAndResumeSwitchTheHeldFlag : Prop :=
  (∀ s : State,
        (∀ target : Word, 31 < target.toNat → EndsAtHead .hold .hold target [] s .badParameter [] id)
        ∧ ∀ i : Fin 32,
          let ends := EndsAtHead .hold .hold (natWord i) [] s
          if (s.context i).state = .free ∨ (s.context i).held = true then ends .wrongState [] id
          else
            ends .done [] fun u => { u with contexts := u.contexts.set i { u.context i with held := true } })
    ∧ (∀ s : State,
        (∀ target : Word, 31 < target.toNat → EndsAtHead .resume .resume target [] s .badParameter [] id)
        ∧ ∀ i : Fin 32,
          let ends := EndsAtHead .resume .resume (natWord i) [] s
          if (s.context i).held = false then ends .wrongState [] id
          else
            ends .done [] fun u => { u with contexts := u.contexts.set i { u.context i with held := false } })

/-- R72, R73: RESELECT of one context and of all. -/
def Obligations.ReselectRunsAutoContexts : Prop :=
  ∀ s : State,
    let run (i : Fin 32) : Context := (s.context i).selectionRun s.selectionMap s.profiles
    (∀ target : Word, 31 < target.toNat → target ≠ 255 →
      EndsAtHead .reselect .reselect target [] s .badParameter [] id)
    ∧ (∀ i : Fin 32,
      let ends := EndsAtHead .reselect .reselect (natWord i) [] s
      if (s.context i).state = .free ∨ (s.context i).mode ≠ .auto then ends .wrongState [] id
      else
        ends .done
          [match (run i).state with | .free => 0 | .bound => 1 | .unmapped => 2 | .active => 3 | .stale => 4,
            match (run i).activeProfile with | some p => p.setWidth 16 | none => 0xFFFF]
          fun u => { u with contexts := u.contexts.set i (run i) })
    ∧ let runs (i : Fin 32) : Bool := (s.context i).mode = .auto && (s.context i).descriptor.isSome
      let hits (i : Fin 32) : Bool :=
        (s.context i).descriptor.any fun d =>
          (Table.get (keyIndex d (s.context i).variant) s.selectionMap).any (validProfile s.profiles)
      EndsAtHead .reselectAll .reselect 255 [] s .done
        [natWord ((List.finRange 32).countP runs),
          natWord ((List.finRange 32).countP fun i => runs i && (run i).activeProfile != (s.context i).activeProfile),
          natWord ((List.finRange 32).countP fun i => runs i && !hits i)]
        fun u => { u with contexts := contextTable fun i => if runs i then run i else s.context i }

/-- R22: CONTEXT-READ. -/
def Obligations.ContextReadReturnsTheRecord : Prop :=
  ∀ s : State,
    (∀ target : Word, 31 < target.toNat →
      EndsAtHead .contextRead .contextRead target [] s .badParameter [] id)
    ∧ ∀ i : Fin 32,
      let ends := EndsAtHead .contextRead .contextRead (natWord i) [] s
      let c := s.context i
      (c.state = .free → ends .done [0] id)
      ∧ ∀ key, c.state ≠ .free → c.key = some key →
        ends .done
          ([match c.state with | .free => 0 | .bound => 1 | .unmapped => 2 | .active => 3 | .stale => 4,
              if c.held then 1 else 0, key.node.setWidth 16, key.channel.setWidth 16, c.variant.setWidth 16,
              match c.mode with | .auto => 0 | .fixed _ => 1,
              match c.mode with | .auto => 0xFFFF | .fixed p => p.setWidth 16,
              match c.missPolicy with | .drop => 0 | .retain => 1,
              match c.stalePolicy with | .discard => 0 | .forward => 1,
              c.lifetime.setWidth 16, c.remaining.setWidth 16, c.silenceLimit.setWidth 16,
              c.silenceCount.setWidth 16, if c.silentReported then 1 else 0,
              match c.activeProfile with | some p => p.setWidth 16 | none => 0xFFFF,
              if c.newProfile then 1 else 0,
              match c.tracker with | .resync => 0xFFFF | .expect q => q.setWidth 16,
              c.outputSeq.setWidth 16, natWord c.quota, natWord c.budget, c.reportMask.setWidth 16]
            ++ (match c.descriptor with
              | none => [0, 0, 0, 0, 0, 0, 0]
              | some d =>
                [1, d.cls.setWidth 16, d.range.setWidth 16,
                  match d.encoding with
                    | .unsigned12 => 0 | .signed12 => 1 | .unsigned16 => 2 | .signed16 => 3 | .signed24 => 4,
                  d.unit.setWidth 16, natWord (d.serial.toNat / 65536), natWord d.serial.toNat])
            ++ [c.epoch.setWidth 16])
          id

/-- R117, R118, R191, R192: COUNTERS-READ of a context, and of the part: the 24 counters as they stand when the command is
taken at the head. Taken in the event of its arrival, its frame, good at the control port, and its admission are counted
before it reads. -/
def Obligations.CountersReadReturnsAndClears : Prop :=
  (∀ (s : State) (clear : Word),
        (∀ target : Word, 31 < target.toNat → target ≠ 255 →
          EndsAtHead .countersRead .countersRead target [clear] s .badParameter [] id)
        ∧ ∀ i : Fin 32,
          let ends := EndsAtHead .countersRead .countersRead (natWord i) [clear] s
          let k := (s.context i).counters
          let two (n : BitVec 32) : List Word := [natWord (n.toNat / 65536), natWord n.toNat]
          if 1 < clear.toNat then ends .badParameter [] id
          else if (s.context i).state = .free then ends .wrongState [] id
          else
            ends .done
              (two k.accepted ++ two k.conditioned ++ two k.missed ++ two k.duplicates ++ two k.discarded
                ++ two k.budgetDrops ++ two k.queueDrops ++ two k.clamped ++ two k.malformed ++ two k.descriptors
                ++ two k.changes)
              fun u =>
                if clear = 1 then
                  { u with
                    contexts :=
                      u.contexts.set i
                        { u.context i with
                          counters :=
                            { accepted := 0, conditioned := 0, missed := 0, duplicates := 0, discarded := 0,
                              budgetDrops := 0, queueDrops := 0, clamped := 0, malformed := 0, descriptors := 0,
                              changes := 0 } } }
                else u)
    ∧ (∀ (s : State) (clear : Word),
        let two (n : BitVec 32) : List Word := [natWord (n.toNat / 65536), natWord n.toNat]
        let words (k : PartCounters) : List Word :=
          two k.fieldGood ++ two k.fieldCrc ++ two k.fieldLength ++ two k.fieldHeader ++ two k.fieldStray
            ++ two k.fieldSent ++ two k.copiesReplaced ++ two k.copiesDropped ++ two k.controlGood ++ two k.controlCrc
            ++ two k.controlLength ++ two k.controlHeader ++ two k.controlStray ++ two k.controlSent
            ++ two k.passDropped ++ two k.cyclesTaken ++ two k.cycleDuplicates ++ two k.cycleSkips
            ++ two k.cyclesMalformed ++ two k.commandsReceived ++ two k.commandsRefused ++ two k.commandDuplicates
            ++ two k.immediatesTaken ++ two k.commandsAdmitted
        let cleared (u : State) : State := if clear = 1 then { u with part := State.reset.part } else u
        let atHead (o : CommandOutcome) (data : List Word) (u : State) : Prop :=
          ∀ tag : Byte, takeHead { tag, code := .countersRead, target := 255, params := [clear] } s = .ends o data u
        let onArrival := EndsOnArrival .countersReadPart .countersRead 255 [clear] s
        if 1 < clear.toNat then atHead .badParameter [] s ∧ onArrival .badParameter [] id
        else
          atHead .done (words s.part) (cleared s)
          ∧ onArrival .done
            (words
              { s.part with
                controlGood := satAdd s.part.controlGood 1, commandsReceived := satAdd s.part.commandsReceived 1,
                commandsAdmitted := satAdd s.part.commandsAdmitted 1 })
            cleared)

/-- R68, R69, R70: MAP-WRITE. That the map is a list in canonical form, which the command keeps, is the model's choice (log
entry 11). -/
def Obligations.MapWriteWritesAndReselects : Prop :=
  ∀ (s : State) (target start count option : Word) (entries : List Word), entries.length = count.toNat →
    count.toNat ≤ 55 →
      let ends := EndsAtHead .mapWrite .mapWrite target (start :: count :: (entries ++ [option])) s
      if target ≠ 255 ∨ count.toNat < 1 ∨ 32 < count.toNat ∨ 255 < start.toNat
          ∨ 256 < start.toNat + count.toNat ∨ (∃ w ∈ entries, 63 < w.toNat ∧ w ≠ 0xFFFF) ∨ 1 < option.toNat then
        ends .badParameter [] id
      else
        ∃ map : Table 8 (BitVec 6),
          (Table.wf s.selectionMap → Table.wf map)
          ∧ (∀ k : BitVec 8,
            Table.get k map
              = if start.toNat ≤ k.toNat ∧ k.toNat < start.toNat + count.toNat then
                  match entries[k.toNat - start.toNat]? with
                  | some w => if w = 0xFFFF then none else some (w.setWidth 6)
                  | none => none
                else Table.get k s.selectionMap)
          ∧ let run (i : Fin 32) : Context := (s.context i).selectionRun map s.profiles
            let index (i : Fin 32) : Option (BitVec 8) :=
              (s.context i).descriptor.map fun d => keyIndex d (s.context i).variant
            let runs (i : Fin 32) : Bool :=
              option = 1 && (s.context i).mode = .auto
                && (index i).any fun k =>
                  start.toNat ≤ k.toNat && k.toNat < start.toNat + count.toNat
            let hits (i : Fin 32) : Bool :=
              (index i).any fun k => (Table.get k map).any (validProfile s.profiles)
            ends .done
              [count, natWord ((List.finRange 32).countP runs),
                natWord
                  ((List.finRange 32).countP fun i =>
                    runs i && (run i).activeProfile != (s.context i).activeProfile),
                natWord ((List.finRange 32).countP fun i => runs i && !hits i)]
              fun u =>
                { u with
                  selectionMap := map
                  contexts := contextTable fun i => if runs i then run i else s.context i }

/-- R71, R84: MAP-READ and PROFILE-READ. -/
def Obligations.ReadsReturnTheTables : Prop :=
  (∀ (s : State) (target start count : Word),
        let ends := EndsAtHead .mapRead .mapRead target [start, count] s
        if target ≠ 255 ∨ count.toNat < 1 ∨ 32 < count.toNat ∨ 255 < start.toNat
            ∨ 256 < start.toNat + count.toNat then
          ends .badParameter [] id
        else
          ends .done
            ((List.range count.toNat).map fun i =>
              match Table.get (BitVec.ofNat 8 (start.toNat + i)) s.selectionMap with
              | some p => p.setWidth 16
              | none => 0xFFFF)
            id)
    ∧ (∀ (s : State) (target index source : Word),
        let ends := EndsAtHead .profileRead .profileRead target [index, source] s
        let p : BitVec 6 := index.setWidth 6
        let two (x : BitVec 32) : List Word := [natWord (x.toNat / 65536), natWord x.toNat]
        let words (record : Option Profile) : List Word :=
          match record with
          | none => [0, 0, 0, 0, 0, 0, 0, 0, 0, 0, 0, 0]
          | some r =>
            [1] ++ two (BitVec.ofInt 32 r.inputOffset.toInt) ++ [r.gain, r.shift.setWidth 16] ++ two r.outputOffset
              ++ two r.clampLow ++ two r.clampHigh ++ [r.unit.setWidth 16]
        if target ≠ 255 ∨ 63 < index.toNat ∨ 1 < source.toNat then ends .badParameter [] id
        else if source = 0 then ends .done ([0] ++ words (Table.get p s.profiles) ++ [s.generation]) id
        else
          (∀ (before after : List Staged) (record : Option Profile),
            s.staging = before ++ { target := p, record := record } :: after → (∀ e ∈ before, e.target ≠ p) →
            ends .done ([1] ++ words record ++ [natWord (before.length + 1)]) id)
          ∧ ((∀ e ∈ s.staging, e.target ≠ p) → ends .wrongState [] id))

/-- R80, R81, R82, R83: PROFILE-STAGE and PROFILE-DISCARD; at most one staged record has a target (R80). -/
def Obligations.StagingCommandsWriteAndRemoveRecords : Prop :=
  (∀ (s : State) (target index valid inHi inLo gain shift outHi outLo lowHi lowLo highHi highLo unit : Word),
        let ends :=
          EndsAtHead .profileStage .profileStage target
            [index, valid, inHi, inLo, gain, shift, outHi, outLo, lowHi, lowLo, highHi, highLo, unit] s
        let pair (hi lo : Word) : Int := (BitVec.ofNat 32 (hi.toNat * 65536 + lo.toNat)).toInt
        let p : BitVec 6 := index.setWidth 6
        let record : Option Profile :=
          if valid = 0 then none
          else
            some
              { inputOffset := BitVec.ofInt 24 (pair inHi inLo), gain := gain, shift := shift.setWidth 4,
                outputOffset := BitVec.ofInt 32 (pair outHi outLo), clampLow := BitVec.ofInt 32 (pair lowHi lowLo),
                clampHigh := BitVec.ofInt 32 (pair highHi highLo), unit := unit.setWidth 4 }
        if target ≠ 255 ∨ 63 < index.toNat ∨ 1 < valid.toNat
            ∨ (valid = 1
              ∧ (pair inHi inLo < -8388608 ∨ 8388607 < pair inHi inLo ∨ 15 < shift.toNat ∨ 15 < unit.toNat
                ∨ pair highHi highLo < pair lowHi lowLo)) then
          ends .badParameter [] id
        else if ∃ e ∈ s.staging, e.target = p then
          ends .done [natWord s.staging.length, 1] fun u =>
            { u with
              staging := u.staging.map fun e => if e.target = p then { target := p, record := record } else e }
        else if 8 ≤ s.staging.length then ends .stagingFull [] id
        else
          ends .done [natWord (s.staging.length + 1), 0] fun u =>
            { u with staging := u.staging ++ [{ target := p, record := record }] })
    ∧ (∀ (s : State) (target index : Word), (s.staging.map Staged.target).Nodup →
        let ends := EndsAtHead .profileDiscard .profileDiscard target [index] s
        if target ≠ 255 ∨ (63 < index.toNat ∧ index ≠ 255) then ends .badParameter [] id
        else if index = 255 then ends .done [natWord s.staging.length, 0] fun u => { u with staging := [] }
        else if ∃ e ∈ s.staging, e.target = index.setWidth 6 then
          ends .done [1, natWord (s.staging.length - 1)] fun u =>
            { u with staging := u.staging.filter fun e => e.target ≠ index.setWidth 6 }
        else ends .done [0, natWord s.staging.length] id)

/-- R85: PROFILE-COMMIT at the head. -/
def Obligations.ProfileCommitCompletesOrBecomesPending : Prop :=
  ∀ (s : State) (target : Word),
    let ends := EndsAtHead .profileCommit .profileCommit target [] s
    if target ≠ 255 then ends .badParameter [] id
    else if s.staging = [] then ends .done [0, s.generation, 0, 0, 0] id
    else StaysAtHead .profileCommit .profileCommit target [] s fun u => { u with commitPending := true }

/-- R145, R146, R148: CAPTURE at the head. -/
def Obligations.CaptureStartsArmedOrFails : Prop :=
  ∀ (s : State) (profile mode n t hi lo : Word),
    let params := [profile, mode, n, t, hi, lo]
    (∀ target : Word, 31 < target.toNat → EndsAtHead .capture .capture target params s .badParameter [] id)
    ∧ ∀ i : Fin 32,
      let ends := EndsAtHead .capture .capture (natWord i) params s
      let p : BitVec 6 := profile.setWidth 6
      let staged : Bool := s.staging.any fun e => e.target = p
      let sourceValid : Bool :=
        if staged then (s.staging.find? fun e => e.target = p).any fun e => e.record.isSome
        else (Table.get p s.profiles).isSome
      if 63 < profile.toNat ∨ 1 < mode.toNat ∨ n.toNat < 1 ∨ 4096 < n.toNat ∨ t.toNat < 1 ∨ 255 < t.toNat then
        ends .badParameter [] id
      else if (s.context i).state ≠ .active ∨ (s.context i).held = true then ends .wrongState [] id
      else if sourceValid = false then ends .wrongState [] id
      else
        StaysAtHead .capture .capture (natWord i) params s fun u =>
          { u with
            capture :=
              some
                { context := i, profile := p, mode := if mode = 0 then .zero else .span, n := n.toNat, t := t.toNat,
                  reference := BitVec.ofNat 32 (hi.toNat * 65536 + lo.toNat),
                  source := if staged then .staging else .table, epoch := (s.context i).epoch, stage := .armed,
                  sum := 0, count := 0, cycles := 0, gaps := 0 } }

/-! ### Immediate commands (chapters 5, 7, 8, 9) -/

/-- R137, R165, R166: ACK-REPORTS of a SENT report removes the reports up to it, and any other is latched as invalid; it
is not entered in the Recent Command List. -/
def Obligations.AckRemovesTheSentReports : Prop :=
  ∀ (s : State) (tag seq : Byte) (channel : BitVec 3) (target n : Word), HearsCommand s 32 tag →
    let h := heardCommand s
    let a : State := { h with part := { h.part with immediatesTaken := satAdd s.part.immediatesTaken 1 } }
    let acked (u : State) : Prop :=
      exec (.ackReports .control (commandWords seq channel 32 tag target [n])) s = .next (arbitrate u)
    (∀ (before after : List Report) (r : Report), h.reports = before ++ r :: after → r.sent = true → r.seq = n →
      (∀ x ∈ before, ¬ (x.sent = true ∧ x.seq = n)) →
      acked
        { a with
          reports := after
          retryCount := 0
          retryTimer := if ∃ x ∈ after, x.sent = true then some s.retryInterval else none })
    ∧ ((∀ x ∈ h.reports, ¬ (x.sent = true ∧ x.seq = n)) →
      acked
        { a with
          partLatch := latchAdd 9 .latest [n, natWord (h.reports.countP fun x => x.sent)] s.partLatch })

/-- R91, R139, R159: ABORT on an empty queue is only counted and entered in the list; otherwise it ends the pending commit
at stage 0 or the running capture at its stage, ABORTED, and flushes the commands behind. -/
def Obligations.AbortEndsTheExecutingCommand : Prop :=
  ∀ (s : State) (tag seq : Byte) (channel : BitVec 3) (target : Word), HearsCommand s 33 tag →
    let a := takenAtOnce .abort tag s
    let aborted (u : State) : Prop :=
      exec (.abort .control (commandWords seq channel 33 tag target [])) s = .next (arbitrate u)
    (s.commandQueue = [] → aborted a)
    ∧ (s.commandQueue ≠ [] → s.commitPending = true →
      aborted
        (endsFlushing .aborted 0 [natWord s.staging.length, s.generation, 0, 0, 0]
          { a with commitPending := false }))
    ∧ ∀ k, s.commandQueue ≠ [] → s.commitPending = false → s.capture = some k →
      aborted
        (endsFlushing .aborted k.stage.code (earlyEndWords k s.staging.length) { a with capture := none })

/-- R138: STATUS, where there is room for its report, and its refusal where there is none. Its word 5 tells of the path
before the frame arrived. -/
def Obligations.StatusReportsTheState : Prop :=
  ∀ (s : State) (tag seq : Byte) (channel : BitVec 3) (target : Word), HearsCommand s 34 tag →
    let answers (u : State) : Prop :=
      exec (.status .control (commandWords seq channel 34 tag target [])) s = .next (arbitrate u)
    (s.reports.length + s.reservations < 16 →
      answers
        (queueReport
          (.completion tag 34 .done 0 255
            [0x3208, 1, if s.fieldLink.up then 1 else 0, 1, if s.path = .stalled then 1 else 0,
              natWord s.commandQueue.length, natWord s.reservations, natWord s.reports.length,
              natWord s.staging.length, if s.commitPending then 1 else 0,
              match s.capture with
                | none => 0xFFFF
                | some k => (match k.stage with | .armed => 1 | .collecting => 2),
              s.generation, if s.lastCycle = none then 0 else 1, s.lastCycle.getD 0,
              natWord ((List.finRange 32).countP fun i => (s.context i).state ≠ .free)])
          (takenAtOnce .status tag s)))
    ∧ (16 ≤ s.reports.length + s.reservations →
      let h := heardCommand s
      answers
        { h with
          part := { h.part with commandsRefused := satAdd s.part.commandsRefused 1 }
          partLatch := latchAdd 8 .latest [tag.setWidth 16, 34, 3] s.partLatch })

/-- R23, R33, R119, R141, R178, R179, R187: RESET-PART FULL leaves the power-on values everywhere but in the links, in the
frames being sent, in the marks on their way and in the list, which holds its own pair; RESET-PART CONTEXTS frees every
context, discards the commands, a pending commit, a capture and the Measure Queue, latches RESTARTED, and keeps the rest.
The marks, and the model's own fields, are kept (log entry 7). That FULL at a STALLED path with an idle transmitter begins
no report before the Report Queue is emptied is the model's inference (log entry 9). -/
def Obligations.ResetPartRestoresItsScope : Prop :=
  (∀ (s : State) (tag seq : Byte) (channel : BitVec 3) (target : Word), HearsCommand s 35 tag →
        exec (.resetPartFull .control (commandWords seq channel 35 tag target [0])) s
          = .next
            (arbitrate
              { State.reset with
                pending := s.pending
                draws := s.draws
                fieldLink := s.fieldLink
                controlLink := { s.controlLink with midFrame := false }
                fieldTx := s.fieldTx
                controlTx := s.controlTx
                marks := s.marks
                recent := [(tag, 35)]
                partLatch := [(1, { count := 1, detail := [2] })] }))
    ∧ (∀ (s : State) (tag seq : Byte) (channel : BitVec 3) (target : Word), HearsCommand s 35 tag →
        exec (.resetPartContexts .control (commandWords seq channel 35 tag target [1])) s
          = .next
            (arbitrate
              { takenAtOnce .resetPart tag s with
                streamMap := []
                contexts := Vector.replicate 32 Context.free
                commandQueue := []
                executing := false
                reservations := 0
                commitPending := false
                capture := none
                measureQueue := []
                partLatch := latchAdd 1 .latest [3] s.partLatch }))

/-! ### The Report Unit and the transmitters (chapters 9 and 10) -/

/-- R168: at or below the limit an expiry is a go-back, with or without SENT reports; above it the path stalls, at the
default limit of 4 at the fifth expiry. R171: the arrival of a COMMAND frame at a STALLED path makes every report UNSENT
and the path RUNNING, and at a RUNNING one leaves the reports and the count; the frame is counted at the port and at the
Command Unit. -/
def Obligations.RetryTimerGoesBackStallsAndRecovers : Prop :=
  (∀ (s : State) (running : Byte), s.resetHeld = false → s.retryTimer = some running →
        (s.retryCount + 1 ≤ s.retryLimit.toNat →
          exec .retryTimerExpiry s
            = .next
              (arbitrate
                { s with
                  retryCount := s.retryCount + 1
                  reports := s.reports.map fun r => { r with sent := false }
                  retryTimer := some s.retryInterval }))
        ∧ (s.retryLimit.toNat < s.retryCount + 1 →
          exec .retryTimerExpiry s
            = .next { s with retryCount := s.retryCount + 1, path := .stalled, retryTimer := none })
        ∧ (s.retryLimit = 4 → s.retryCount = 4 →
          exec .retryTimerExpiry s = .next { s with retryCount := 5, path := .stalled, retryTimer := none }))
    ∧ (∀ s : State,
        let counted : State :=
          { s with
            controlLink := { s.controlLink with midFrame := false }
            part :=
              { s.part with
                controlGood := satAdd s.part.controlGood 1, commandsReceived := satAdd s.part.commandsReceived 1 } }
        (s.path = .running → heardCommand s = counted)
        ∧ (s.path = .stalled →
          heardCommand s
            = { counted with
                path := .running
                reports := s.reports.map fun r => { r with sent := false }
                retryCount := 0
                retryTimer := none }))

/-- R163, R174, R175: an emission takes the lowest-numbered entry of the first owner from the scan pointer on that has
one, queues it as an EVENT report, and moves the pointer to the next owner. -/
def Obligations.EmissionReportsTheNextOwner : Prop :=
  ∀ (s : State) (n : Nat) (kind : BitVec 4) (e : LatchEntry) (rest : Latch), s.resetHeld = false →
    s.controlLink.up = true → s.reports.length + s.reservations ≤ 11 →
      let after (o : Owner) : Owner :=
        match o with
        | .part => .context 0
        | .context i => if i.val = 31 then .part else .context (i + 1)
      let owner (m : Nat) : Owner := after^[m] s.scan
      let latch (o : Owner) : Latch :=
        match o with | .part => s.partLatch | .context i => (s.context i).latch
      n < 33 → (∀ m, m < n → latch (owner m) = []) → latch (owner n) = (kind, e) :: rest →
        let taken : State :=
          match owner n with
          | .part => { s with partLatch := rest }
          | .context i => { s with contexts := s.contexts.set i { s.context i with latch := rest } }
        exec .emission s
          = .next
            (arbitrate
              { taken with
                scan := after (owner n)
                reports :=
                  s.reports
                    ++ [{ seq := s.nextReportSeq, sent := false, body := .event (owner n) kind e.count e.detail }]
                nextReportSeq := s.nextReportSeq + 1 })

/-- R164, R167, R180, R184 to R187: a transmitter that is sending a frame, or whose link is DOWN, begins none, and the choice
leaves everything alone; while RESET_N is low both links count as DOWN (log entry 3). An idle one whose link is UP chooses:
the field transmitter the copy in the slot, else the head of the Downstream Pass Queue, else nothing; the control transmitter
the oldest UNSENT report while the path is RUNNING, else a PASS frame when no MEASURE frame waits or four have gone since the
last, else a MEASURE frame, else nothing. The end of a frame counts it, and the transmitter, idle again, chooses. -/
def Obligations.TransmittersChooseTheNextFrame : Prop :=
  (∀ s : State,
    (s.fieldTx ≠ none ∨ s.fieldLink.up = false ∨ s.resetHeld = true → fieldChoose s = s)
    ∧ (s.controlTx ≠ none ∨ s.controlLink.up = false ∨ s.resetHeld = true → arbitrate s = s))
    ∧ (∀ s : State, s.resetHeld = false → s.fieldTx = none → s.fieldLink.up = true →
      (∀ n, s.cycleSlot = some n → fieldChoose s = { s with cycleSlot := none, fieldTx := some (.cycleCopy n) })
      ∧ (∀ ws rest, s.cycleSlot = none → s.downQueue = ws :: rest →
        fieldChoose s = { s with downQueue := rest, fieldTx := some (.pass ws) })
      ∧ (s.cycleSlot = none → s.downQueue = [] → fieldChoose s = s))
    ∧ (∀ s : State, s.resetHeld = false → s.controlTx = none → s.controlLink.up = true →
      (∀ (before after : List Report) (r : Report), s.path = .running → s.reports = before ++ r :: after →
        r.sent = false → (∀ x ∈ before, x.sent = true) →
        arbitrate s
          = { s with
              reports := before ++ { r with sent := true } :: after
              retryTimer := match s.retryTimer with | none => some s.retryInterval | some t => some t
              controlTx := some (.report r.toWords) })
      ∧ (s.path = .stalled ∨ (∀ r ∈ s.reports, r.sent = true) →
        (∀ ws rest, s.upQueue = ws :: rest → s.measureQueue = [] ∨ s.measuresSincePass = 4 →
          arbitrate s = { s with upQueue := rest, measuresSincePass := 0, controlTx := some (.pass ws) })
        ∧ (∀ m ms, s.measureQueue = m :: ms → s.upQueue = [] ∨ s.measuresSincePass ≠ 4 →
          arbitrate s
            = { s with
                measureQueue := ms
                measuresSincePass := min 4 (s.measuresSincePass + 1)
                controlTx := some (.measure m.toWords) })
        ∧ (s.upQueue = [] → s.measureQueue = [] → arbitrate s = s)))
    ∧ ∀ s : State, s.resetHeld = false →
      (s.fieldTx ≠ none →
        exec (.transmissionEnd .field) s
          = .next
            (fieldChoose
              { s with fieldTx := none, part := { s.part with fieldSent := satAdd s.part.fieldSent 1 } }))
      ∧ (s.controlTx ≠ none →
        exec (.transmissionEnd .control) s
          = .next
            (arbitrate
              { s with controlTx := none, part := { s.part with controlSent := satAdd s.part.controlSent 1 } }))

/-- R30, R115, R132, R161, R194, R195: the words of the frames the part builds, field by field: the first three are the
header, the last is the CRC of the others, and the payload stands between them. R194: the CRC by its register, from 0xFFFF,
each word most significant bit first, with the polynomial 0x1021. R132: the outcomes by their codes. -/
def Obligations.BuiltFramesHaveTheirLayouts : Prop :=
  let framed (kind dst seq channel : Nat) (payload words : List Word) : Prop :=
    words.length = payload.length + 4
      ∧ words
        = natWord (4096 * kind + 128 * dst + 4 * 31) :: natWord (256 * seq + 32 * channel)
          :: natWord payload.length :: (payload ++ [crc words.dropLast])
  let outcomeCode (o : CommandOutcome) : Nat :=
    match o with
    | .done => 0 | .wrongState => 1 | .badParameter => 2 | .keyInUse => 3 | .stagingFull => 4 | .flushed => 5
    | .aborted => 6 | .timeout => 7 | .descChanged => 8 | .stale => 9 | .linkDown => 10 | .spanRange => 11
  let shifted (w : Word) (register k : Nat) : Nat :=
    let up : Nat := 2 * register % 65536
    if (register / 32768 + w.toNat / 2 ^ (15 - k)) % 2 = 1 then up ^^^ 0x1021 else up
  crc [] = 0xFFFF
    ∧ (∀ (ws : List Word) (w : Word),
      (crc (ws ++ [w])).toNat = (List.range 16).foldl (shifted w) (crc ws).toNat)
    ∧ (∀ n : Word, framed 3 30 (n.toNat % 256) 0 [n] (cycleCopyWords n))
    ∧ (∀ m : MeasureFrame, m.values.length ≤ 16 →
      framed 6 0 m.seq.toNat m.channel.toNat
        ([natWord
            (2048 * m.context.val + (if m.stale then 1024 else 0) + (if m.gap then 512 else 0)
              + (if m.clamped then 256 else 0) + (if m.newProfile then 128 else 0) + m.unit.toNat),
          natWord (256 * m.profile.toNat + m.epoch.toNat), m.generation]
          ++ m.values.flatMap fun v => [natWord (v.toNat / 65536), natWord v.toNat])
        m.toWords)
    ∧ ∀ r : Report,
      (∀ tag code outcome stage context data, r.body = .completion tag code outcome stage context data →
        data.length ≤ 48 →
        framed 5 0 (r.seq.toNat % 256) 0
          ([r.seq, 0, natWord (256 * code.toNat + tag.toNat), natWord (256 * outcomeCode outcome + stage.toNat),
            natWord context.toNat] ++ data)
          r.toWords)
      ∧ ∀ owner kind count detail, r.body = .event owner kind count detail → detail.length ≤ 4 →
        framed 5 0 (r.seq.toNat % 256) 0
          ([r.seq, 1, match owner with | .part => 255 | .context i => natWord i.val,
            natWord (256 * kind.toNat + count.toNat)] ++ detail)
          r.toWords

/-! ### Laws that every step keeps -/

/-- The sparse stores and the latches stay in canonical form, lists in strictly rising order of their keys: that they are kept
as such lists is the model's choice (log entry 11). -/
def Obligations.EveryStepKeepsTheTablesInOrder : Prop :=
  ∀ s t : State, TablesInOrder s → step s = .next t → TablesInOrder t

/-- R129, R160: the bounds of the stores. -/
def Obligations.EveryStepKeepsTheStoresWithinBounds : Prop :=
  ∀ s t : State, StoresWithinBounds s → step s = .next t → StoresWithinBounds t

/-- R80, R126: no staged target and no recent pair twice. R10, R109, R180, R187: budgets stay within quotas, and a DOWN link
has no frame on its transmitter. -/
def Obligations.EveryStepKeepsListsBudgetsAndSilentLinks : Prop :=
  (∀ s t : State, NothingListedTwice s → step s = .next t → NothingListedTwice t)
    ∧ ((∀ s t : State, BudgetsWithinQuotas s → step s = .next t → BudgetsWithinQuotas t)
        ∧ ∀ s t : State, DownLinksSilent s → step s = .next t → DownLinksSilent t)

/-- R161: consecutive report sequences, and the SENT reports in front. -/
def Obligations.EveryStepKeepsReportsInSequence : Prop :=
  ∀ s t : State, ReportsInSequence s → step s = .next t → ReportsInSequence t

/-- R1, R13: the law of the five states, and one context for each key of the Stream Map. -/
def Obligations.EveryStepKeepsContextsInLaw : Prop :=
  ∀ s t : State, ContextsInLaw s → step s = .next t → ContextsInLaw t

/-- R130, R147: the Command Queue is empty, or its head is a pending commit or a running capture. -/
def Obligations.EveryStepKeepsTheHeadInOrder : Prop :=
  ∀ s t : State, HeadInOrder s → step s = .next t → HeadInOrder t

/-- The laws hold right after power-on. The canonical form of the tables among them is the model's choice (log entry 11). -/
def Obligations.ResetMeetsEveryLaw : Prop :=
  TablesInOrder State.reset ∧ StoresWithinBounds State.reset ∧ NothingListedTwice State.reset
    ∧ ReportsInSequence State.reset ∧ ContextsInLaw State.reset ∧ HeadInOrder State.reset
    ∧ BudgetsWithinQuotas State.reset ∧ DownLinksSilent State.reset
end

