-- ==== Sys2Proof/Laws/Frames.lean ====
section
/-! SUPPORT. Reading and building frames: the header's fields survive both ways, and where the parts of a built frame
stand. -/

namespace Sys2Proof

/-! ### The header (R194) -/

/-- The fields read from a built header are those it was built of. -/
@[simp] theorem Header.read_words (h : Header) :
    Header.read (h.kind ++ h.dst ++ h.src ++ 0#2) (h.seq ++ h.channel ++ 0#5) (0#10 ++ h.length) = h := by
  obtain ⟨kind, dst, src, seq, channel, length⟩ := h
  simp only [Header.read, Header.mk.injEq]
  refine ⟨?_, ?_, ?_, ?_, ?_, ?_⟩ <;> apply BitVec.eq_of_getLsbD_eq <;> intro i hi <;>
    simp only [BitVec.getLsbD_extractLsb', BitVec.getLsbD_append] <;> (repeat' split) <;>
    first | omega | (simp only [hi, decide_true, Bool.true_and]; congr 1; omega)

/-- A built header has its reserved bits clear. -/
@[simp] theorem reservedClear_words (h : Header) :
    reservedClear (h.kind ++ h.dst ++ h.src ++ 0#2) (h.seq ++ h.channel ++ 0#5) (0#10 ++ h.length) = true := by
  obtain ⟨kind, dst, src, seq, channel, length⟩ := h
  have e1 : (kind ++ dst ++ src ++ 0#2).extractLsb' 0 2 = 0 := by
    apply BitVec.eq_of_getLsbD_eq; intro i hi
    simp only [BitVec.getLsbD_extractLsb', BitVec.getLsbD_append]; (repeat' split) <;> first | omega | simp
  have e2 : (seq ++ channel ++ 0#5).extractLsb' 0 5 = 0 := by
    apply BitVec.eq_of_getLsbD_eq; intro i hi
    simp only [BitVec.getLsbD_extractLsb', BitVec.getLsbD_append]; (repeat' split) <;> first | omega | simp
  have e3 : (0#10 ++ length).extractLsb' 6 10 = 0 := by
    apply BitVec.eq_of_getLsbD_eq; intro i hi
    simp only [BitVec.getLsbD_extractLsb', BitVec.getLsbD_append]; (repeat' split) <;> first | omega | simp
  simp [reservedClear, e1, e2, e3]

/-- Three words with their reserved bits clear are the header that is read from them. -/
theorem Header.words_read {w0 w1 w2 : Word} (h : reservedClear w0 w1 w2 = true) :
    (Header.read w0 w1 w2).words = [w0, w1, w2] := by
  simp only [reservedClear, Bool.and_eq_true, decide_eq_true_eq] at h
  obtain ⟨⟨h0, h1⟩, h2⟩ := h
  simp only [Header.words, Header.read, List.cons.injEq, and_true]
  have b0 (i : Nat) (hi : i < 2) : w0.getLsbD i = false := by
    have := congrArg (fun x => x.getLsbD i) h0; simpa [hi] using this
  have b1 (i : Nat) (hi : i < 5) : w1.getLsbD i = false := by
    have := congrArg (fun x => x.getLsbD i) h1; simpa [hi] using this
  have b2 (i : Nat) (hi : i < 10) : w2.getLsbD (6 + i) = false := by
    have := congrArg (fun x => x.getLsbD i) h2; simpa [hi] using this
  refine ⟨?_, ?_, ?_⟩ <;> apply BitVec.eq_of_getLsbD_eq <;> intro i hi <;>
    simp only [BitVec.getLsbD_append, BitVec.getLsbD_extractLsb'] <;> (repeat' split)
  all_goals first
    | (simp only [BitVec.getLsbD_zero]; exact (b0 i (by omega)).symm)
    | (simp only [BitVec.getLsbD_zero]; exact (b1 i (by omega)).symm)
    | (simp only [BitVec.getLsbD_zero]; have := b2 (i - 6) (by omega); rw [show 6 + (i - 6) = i by omega] at this
       exact this.symm)
    | (rw [decide_eq_true (by omega), Bool.true_and]; congr 1; omega)

/-! ### The parts of a built frame -/

/-- The words of a built frame that its CRC covers. -/
def frameBody (kind : BitVec 4) (dst src : BitVec 5) (seq : Byte) (channel : BitVec 3) (payload : List Word) :
    List Word :=
  Header.words { kind, dst, src, seq, channel, length := BitVec.ofNat 6 payload.length } ++ payload

theorem frameWords_eq (kind : BitVec 4) (dst src : BitVec 5) (seq : Byte) (channel : BitVec 3)
    (payload : List Word) :
    frameWords kind dst src seq channel payload
      = frameBody kind dst src seq channel payload ++ [crc (frameBody kind dst src seq channel payload)] := rfl

@[simp] theorem frameWords_length (kind : BitVec 4) (dst src : BitVec 5) (seq : Byte) (channel : BitVec 3)
    (payload : List Word) : (frameWords kind dst src seq channel payload).length = payload.length + 4 := by
  simp [frameWords_eq, frameBody, Header.words]

@[simp] theorem frameWords_dropLast (kind : BitVec 4) (dst src : BitVec 5) (seq : Byte) (channel : BitVec 3)
    (payload : List Word) :
    (frameWords kind dst src seq channel payload).dropLast = frameBody kind dst src seq channel payload := by
  simp [frameWords_eq]

@[simp] theorem frameWords_getLast? (kind : BitVec 4) (dst src : BitVec 5) (seq : Byte) (channel : BitVec 3)
    (payload : List Word) :
    (frameWords kind dst src seq channel payload).getLast?
      = some (crc (frameBody kind dst src seq channel payload)) := by
  simp [frameWords_eq]

/-! ### Command codes (R122) -/

@[simp] theorem codeOf_append (code tag : Byte) : codeOf (code ++ tag) = code := by
  apply BitVec.eq_of_getLsbD_eq; intro i hi
  simp only [codeOf, BitVec.getLsbD_extractLsb', BitVec.getLsbD_append, hi, decide_true, Bool.true_and]
  split <;> first | omega | (congr 1; omega)

@[simp] theorem tagOf_append (code tag : Byte) : tagOf (code ++ tag) = tag := by
  apply BitVec.eq_of_getLsbD_eq; intro i hi
  simp only [tagOf, BitVec.getLsbD_extractLsb', BitVec.getLsbD_append, hi, decide_true, Bool.true_and]
  split <;> first | omega | (congr 1; omega)

@[simp] theorem CommandCode.ofByte_queued (q : QueuedCode) :
    CommandCode.ofByte q.toByte = some (.queued q) := by cases q <;> decide

@[simp] theorem CommandCode.ofByte_immediate (i : ImmediateCode) :
    CommandCode.ofByte i.toByte = some (.immediate i) := by cases i <;> decide

/-- A code that names a queued command is that command's code. -/
theorem CommandCode.ofByte_eq_queued {b : Byte} {q : QueuedCode}
    (h : CommandCode.ofByte b = some (.queued q)) : b = q.toByte := by
  revert h; revert b; cases q <;> decide

/-- A code that names an immediate command is that command's code. -/
theorem CommandCode.ofByte_eq_immediate {b : Byte} {i : ImmediateCode}
    (h : CommandCode.ofByte b = some (.immediate i)) : b = i.toByte := by
  revert h; revert b; cases i <;> decide

end Sys2Proof
end

