-- ==== Sys2Proof/Laws/State.lean ====
section
/-! SUPPORT. One lemma for each field and each named update of the state, so that no proof unfolds a record update. -/

namespace Sys2Proof.Machine

/-! ### `State.setContext` -/

@[simp] theorem State.setContext_pending (i : Fin 32) (c : Context) (s : State) :
    (s.setContext i c).pending = s.pending := rfl
@[simp] theorem State.setContext_draws (i : Fin 32) (c : Context) (s : State) :
    (s.setContext i c).draws = s.draws := rfl
@[simp] theorem State.setContext_resetHeld (i : Fin 32) (c : Context) (s : State) :
    (s.setContext i c).resetHeld = s.resetHeld := rfl
@[simp] theorem State.setContext_fieldLink (i : Fin 32) (c : Context) (s : State) :
    (s.setContext i c).fieldLink = s.fieldLink := rfl
@[simp] theorem State.setContext_controlLink (i : Fin 32) (c : Context) (s : State) :
    (s.setContext i c).controlLink = s.controlLink := rfl
@[simp] theorem State.setContext_fieldTx (i : Fin 32) (c : Context) (s : State) :
    (s.setContext i c).fieldTx = s.fieldTx := rfl
@[simp] theorem State.setContext_controlTx (i : Fin 32) (c : Context) (s : State) :
    (s.setContext i c).controlTx = s.controlTx := rfl
@[simp] theorem State.setContext_downQueue (i : Fin 32) (c : Context) (s : State) :
    (s.setContext i c).downQueue = s.downQueue := rfl
@[simp] theorem State.setContext_upQueue (i : Fin 32) (c : Context) (s : State) :
    (s.setContext i c).upQueue = s.upQueue := rfl
@[simp] theorem State.setContext_cycleSlot (i : Fin 32) (c : Context) (s : State) :
    (s.setContext i c).cycleSlot = s.cycleSlot := rfl
@[simp] theorem State.setContext_measuresSincePass (i : Fin 32) (c : Context) (s : State) :
    (s.setContext i c).measuresSincePass = s.measuresSincePass := rfl
@[simp] theorem State.setContext_part (i : Fin 32) (c : Context) (s : State) :
    (s.setContext i c).part = s.part := rfl
@[simp] theorem State.setContext_streamMap (i : Fin 32) (c : Context) (s : State) :
    (s.setContext i c).streamMap = s.streamMap := rfl
@[simp] theorem State.setContext_contexts (i : Fin 32) (c : Context) (s : State) :
    (s.setContext i c).contexts = s.contexts.set i c := rfl
@[simp] theorem State.setContext_lastCycle (i : Fin 32) (c : Context) (s : State) :
    (s.setContext i c).lastCycle = s.lastCycle := rfl
@[simp] theorem State.setContext_marks (i : Fin 32) (c : Context) (s : State) :
    (s.setContext i c).marks = s.marks := rfl
@[simp] theorem State.setContext_selectionMap (i : Fin 32) (c : Context) (s : State) :
    (s.setContext i c).selectionMap = s.selectionMap := rfl
@[simp] theorem State.setContext_profiles (i : Fin 32) (c : Context) (s : State) :
    (s.setContext i c).profiles = s.profiles := rfl
@[simp] theorem State.setContext_generation (i : Fin 32) (c : Context) (s : State) :
    (s.setContext i c).generation = s.generation := rfl
@[simp] theorem State.setContext_staging (i : Fin 32) (c : Context) (s : State) :
    (s.setContext i c).staging = s.staging := rfl
@[simp] theorem State.setContext_commitPending (i : Fin 32) (c : Context) (s : State) :
    (s.setContext i c).commitPending = s.commitPending := rfl
@[simp] theorem State.setContext_measureQueue (i : Fin 32) (c : Context) (s : State) :
    (s.setContext i c).measureQueue = s.measureQueue := rfl
@[simp] theorem State.setContext_commandQueue (i : Fin 32) (c : Context) (s : State) :
    (s.setContext i c).commandQueue = s.commandQueue := rfl
@[simp] theorem State.setContext_executing (i : Fin 32) (c : Context) (s : State) :
    (s.setContext i c).executing = s.executing := rfl
@[simp] theorem State.setContext_recent (i : Fin 32) (c : Context) (s : State) :
    (s.setContext i c).recent = s.recent := rfl
@[simp] theorem State.setContext_capture (i : Fin 32) (c : Context) (s : State) :
    (s.setContext i c).capture = s.capture := rfl
@[simp] theorem State.setContext_reports (i : Fin 32) (c : Context) (s : State) :
    (s.setContext i c).reports = s.reports := rfl
@[simp] theorem State.setContext_reservations (i : Fin 32) (c : Context) (s : State) :
    (s.setContext i c).reservations = s.reservations := rfl
@[simp] theorem State.setContext_nextReportSeq (i : Fin 32) (c : Context) (s : State) :
    (s.setContext i c).nextReportSeq = s.nextReportSeq := rfl
@[simp] theorem State.setContext_path (i : Fin 32) (c : Context) (s : State) :
    (s.setContext i c).path = s.path := rfl
@[simp] theorem State.setContext_retryTimer (i : Fin 32) (c : Context) (s : State) :
    (s.setContext i c).retryTimer = s.retryTimer := rfl
@[simp] theorem State.setContext_retryCount (i : Fin 32) (c : Context) (s : State) :
    (s.setContext i c).retryCount = s.retryCount := rfl
@[simp] theorem State.setContext_retryInterval (i : Fin 32) (c : Context) (s : State) :
    (s.setContext i c).retryInterval = s.retryInterval := rfl
@[simp] theorem State.setContext_retryLimit (i : Fin 32) (c : Context) (s : State) :
    (s.setContext i c).retryLimit = s.retryLimit := rfl
@[simp] theorem State.setContext_partLatch (i : Fin 32) (c : Context) (s : State) :
    (s.setContext i c).partLatch = s.partLatch := rfl
@[simp] theorem State.setContext_scan (i : Fin 32) (c : Context) (s : State) :
    (s.setContext i c).scan = s.scan := rfl

/-! ### `State.mapContexts` -/

@[simp] theorem State.mapContexts_pending (f : Context → Context) (s : State) :
    (s.mapContexts f).pending = s.pending := rfl
@[simp] theorem State.mapContexts_draws (f : Context → Context) (s : State) :
    (s.mapContexts f).draws = s.draws := rfl
@[simp] theorem State.mapContexts_resetHeld (f : Context → Context) (s : State) :
    (s.mapContexts f).resetHeld = s.resetHeld := rfl
@[simp] theorem State.mapContexts_fieldLink (f : Context → Context) (s : State) :
    (s.mapContexts f).fieldLink = s.fieldLink := rfl
@[simp] theorem State.mapContexts_controlLink (f : Context → Context) (s : State) :
    (s.mapContexts f).controlLink = s.controlLink := rfl
@[simp] theorem State.mapContexts_fieldTx (f : Context → Context) (s : State) :
    (s.mapContexts f).fieldTx = s.fieldTx := rfl
@[simp] theorem State.mapContexts_controlTx (f : Context → Context) (s : State) :
    (s.mapContexts f).controlTx = s.controlTx := rfl
@[simp] theorem State.mapContexts_downQueue (f : Context → Context) (s : State) :
    (s.mapContexts f).downQueue = s.downQueue := rfl
@[simp] theorem State.mapContexts_upQueue (f : Context → Context) (s : State) :
    (s.mapContexts f).upQueue = s.upQueue := rfl
@[simp] theorem State.mapContexts_cycleSlot (f : Context → Context) (s : State) :
    (s.mapContexts f).cycleSlot = s.cycleSlot := rfl
@[simp] theorem State.mapContexts_measuresSincePass (f : Context → Context) (s : State) :
    (s.mapContexts f).measuresSincePass = s.measuresSincePass := rfl
@[simp] theorem State.mapContexts_part (f : Context → Context) (s : State) :
    (s.mapContexts f).part = s.part := rfl
@[simp] theorem State.mapContexts_streamMap (f : Context → Context) (s : State) :
    (s.mapContexts f).streamMap = s.streamMap := rfl
@[simp] theorem State.mapContexts_contexts (f : Context → Context) (s : State) :
    (s.mapContexts f).contexts = contextTable fun i => f (s.context i) := rfl
@[simp] theorem State.mapContexts_lastCycle (f : Context → Context) (s : State) :
    (s.mapContexts f).lastCycle = s.lastCycle := rfl
@[simp] theorem State.mapContexts_marks (f : Context → Context) (s : State) :
    (s.mapContexts f).marks = s.marks := rfl
@[simp] theorem State.mapContexts_selectionMap (f : Context → Context) (s : State) :
    (s.mapContexts f).selectionMap = s.selectionMap := rfl
@[simp] theorem State.mapContexts_profiles (f : Context → Context) (s : State) :
    (s.mapContexts f).profiles = s.profiles := rfl
@[simp] theorem State.mapContexts_generation (f : Context → Context) (s : State) :
    (s.mapContexts f).generation = s.generation := rfl
@[simp] theorem State.mapContexts_staging (f : Context → Context) (s : State) :
    (s.mapContexts f).staging = s.staging := rfl
@[simp] theorem State.mapContexts_commitPending (f : Context → Context) (s : State) :
    (s.mapContexts f).commitPending = s.commitPending := rfl
@[simp] theorem State.mapContexts_measureQueue (f : Context → Context) (s : State) :
    (s.mapContexts f).measureQueue = s.measureQueue := rfl
@[simp] theorem State.mapContexts_commandQueue (f : Context → Context) (s : State) :
    (s.mapContexts f).commandQueue = s.commandQueue := rfl
@[simp] theorem State.mapContexts_executing (f : Context → Context) (s : State) :
    (s.mapContexts f).executing = s.executing := rfl
@[simp] theorem State.mapContexts_recent (f : Context → Context) (s : State) :
    (s.mapContexts f).recent = s.recent := rfl
@[simp] theorem State.mapContexts_capture (f : Context → Context) (s : State) :
    (s.mapContexts f).capture = s.capture := rfl
@[simp] theorem State.mapContexts_reports (f : Context → Context) (s : State) :
    (s.mapContexts f).reports = s.reports := rfl
@[simp] theorem State.mapContexts_reservations (f : Context → Context) (s : State) :
    (s.mapContexts f).reservations = s.reservations := rfl
@[simp] theorem State.mapContexts_nextReportSeq (f : Context → Context) (s : State) :
    (s.mapContexts f).nextReportSeq = s.nextReportSeq := rfl
@[simp] theorem State.mapContexts_path (f : Context → Context) (s : State) :
    (s.mapContexts f).path = s.path := rfl
@[simp] theorem State.mapContexts_retryTimer (f : Context → Context) (s : State) :
    (s.mapContexts f).retryTimer = s.retryTimer := rfl
@[simp] theorem State.mapContexts_retryCount (f : Context → Context) (s : State) :
    (s.mapContexts f).retryCount = s.retryCount := rfl
@[simp] theorem State.mapContexts_retryInterval (f : Context → Context) (s : State) :
    (s.mapContexts f).retryInterval = s.retryInterval := rfl
@[simp] theorem State.mapContexts_retryLimit (f : Context → Context) (s : State) :
    (s.mapContexts f).retryLimit = s.retryLimit := rfl
@[simp] theorem State.mapContexts_partLatch (f : Context → Context) (s : State) :
    (s.mapContexts f).partLatch = s.partLatch := rfl
@[simp] theorem State.mapContexts_scan (f : Context → Context) (s : State) :
    (s.mapContexts f).scan = s.scan := rfl

/-! ### `countPart` -/

@[simp] theorem countPart_pending (f : PartCounters → PartCounters) (s : State) :
    (countPart f s).pending = s.pending := rfl
@[simp] theorem countPart_draws (f : PartCounters → PartCounters) (s : State) :
    (countPart f s).draws = s.draws := rfl
@[simp] theorem countPart_resetHeld (f : PartCounters → PartCounters) (s : State) :
    (countPart f s).resetHeld = s.resetHeld := rfl
@[simp] theorem countPart_fieldLink (f : PartCounters → PartCounters) (s : State) :
    (countPart f s).fieldLink = s.fieldLink := rfl
@[simp] theorem countPart_controlLink (f : PartCounters → PartCounters) (s : State) :
    (countPart f s).controlLink = s.controlLink := rfl
@[simp] theorem countPart_fieldTx (f : PartCounters → PartCounters) (s : State) :
    (countPart f s).fieldTx = s.fieldTx := rfl
@[simp] theorem countPart_controlTx (f : PartCounters → PartCounters) (s : State) :
    (countPart f s).controlTx = s.controlTx := rfl
@[simp] theorem countPart_downQueue (f : PartCounters → PartCounters) (s : State) :
    (countPart f s).downQueue = s.downQueue := rfl
@[simp] theorem countPart_upQueue (f : PartCounters → PartCounters) (s : State) :
    (countPart f s).upQueue = s.upQueue := rfl
@[simp] theorem countPart_cycleSlot (f : PartCounters → PartCounters) (s : State) :
    (countPart f s).cycleSlot = s.cycleSlot := rfl
@[simp] theorem countPart_measuresSincePass (f : PartCounters → PartCounters) (s : State) :
    (countPart f s).measuresSincePass = s.measuresSincePass := rfl
@[simp] theorem countPart_part (f : PartCounters → PartCounters) (s : State) :
    (countPart f s).part = f s.part := rfl
@[simp] theorem countPart_streamMap (f : PartCounters → PartCounters) (s : State) :
    (countPart f s).streamMap = s.streamMap := rfl
@[simp] theorem countPart_contexts (f : PartCounters → PartCounters) (s : State) :
    (countPart f s).contexts = s.contexts := rfl
@[simp] theorem countPart_lastCycle (f : PartCounters → PartCounters) (s : State) :
    (countPart f s).lastCycle = s.lastCycle := rfl
@[simp] theorem countPart_marks (f : PartCounters → PartCounters) (s : State) :
    (countPart f s).marks = s.marks := rfl
@[simp] theorem countPart_selectionMap (f : PartCounters → PartCounters) (s : State) :
    (countPart f s).selectionMap = s.selectionMap := rfl
@[simp] theorem countPart_profiles (f : PartCounters → PartCounters) (s : State) :
    (countPart f s).profiles = s.profiles := rfl
@[simp] theorem countPart_generation (f : PartCounters → PartCounters) (s : State) :
    (countPart f s).generation = s.generation := rfl
@[simp] theorem countPart_staging (f : PartCounters → PartCounters) (s : State) :
    (countPart f s).staging = s.staging := rfl
@[simp] theorem countPart_commitPending (f : PartCounters → PartCounters) (s : State) :
    (countPart f s).commitPending = s.commitPending := rfl
@[simp] theorem countPart_measureQueue (f : PartCounters → PartCounters) (s : State) :
    (countPart f s).measureQueue = s.measureQueue := rfl
@[simp] theorem countPart_commandQueue (f : PartCounters → PartCounters) (s : State) :
    (countPart f s).commandQueue = s.commandQueue := rfl
@[simp] theorem countPart_executing (f : PartCounters → PartCounters) (s : State) :
    (countPart f s).executing = s.executing := rfl
@[simp] theorem countPart_recent (f : PartCounters → PartCounters) (s : State) :
    (countPart f s).recent = s.recent := rfl
@[simp] theorem countPart_capture (f : PartCounters → PartCounters) (s : State) :
    (countPart f s).capture = s.capture := rfl
@[simp] theorem countPart_reports (f : PartCounters → PartCounters) (s : State) :
    (countPart f s).reports = s.reports := rfl
@[simp] theorem countPart_reservations (f : PartCounters → PartCounters) (s : State) :
    (countPart f s).reservations = s.reservations := rfl
@[simp] theorem countPart_nextReportSeq (f : PartCounters → PartCounters) (s : State) :
    (countPart f s).nextReportSeq = s.nextReportSeq := rfl
@[simp] theorem countPart_path (f : PartCounters → PartCounters) (s : State) :
    (countPart f s).path = s.path := rfl
@[simp] theorem countPart_retryTimer (f : PartCounters → PartCounters) (s : State) :
    (countPart f s).retryTimer = s.retryTimer := rfl
@[simp] theorem countPart_retryCount (f : PartCounters → PartCounters) (s : State) :
    (countPart f s).retryCount = s.retryCount := rfl
@[simp] theorem countPart_retryInterval (f : PartCounters → PartCounters) (s : State) :
    (countPart f s).retryInterval = s.retryInterval := rfl
@[simp] theorem countPart_retryLimit (f : PartCounters → PartCounters) (s : State) :
    (countPart f s).retryLimit = s.retryLimit := rfl
@[simp] theorem countPart_partLatch (f : PartCounters → PartCounters) (s : State) :
    (countPart f s).partLatch = s.partLatch := rfl
@[simp] theorem countPart_scan (f : PartCounters → PartCounters) (s : State) :
    (countPart f s).scan = s.scan := rfl

/-! ### `latchPart` -/

@[simp] theorem latchPart_pending (k : PartKind) (d : List Word) (s : State) :
    (latchPart k d s).pending = s.pending := rfl
@[simp] theorem latchPart_draws (k : PartKind) (d : List Word) (s : State) :
    (latchPart k d s).draws = s.draws := rfl
@[simp] theorem latchPart_resetHeld (k : PartKind) (d : List Word) (s : State) :
    (latchPart k d s).resetHeld = s.resetHeld := rfl
@[simp] theorem latchPart_fieldLink (k : PartKind) (d : List Word) (s : State) :
    (latchPart k d s).fieldLink = s.fieldLink := rfl
@[simp] theorem latchPart_controlLink (k : PartKind) (d : List Word) (s : State) :
    (latchPart k d s).controlLink = s.controlLink := rfl
@[simp] theorem latchPart_fieldTx (k : PartKind) (d : List Word) (s : State) :
    (latchPart k d s).fieldTx = s.fieldTx := rfl
@[simp] theorem latchPart_controlTx (k : PartKind) (d : List Word) (s : State) :
    (latchPart k d s).controlTx = s.controlTx := rfl
@[simp] theorem latchPart_downQueue (k : PartKind) (d : List Word) (s : State) :
    (latchPart k d s).downQueue = s.downQueue := rfl
@[simp] theorem latchPart_upQueue (k : PartKind) (d : List Word) (s : State) :
    (latchPart k d s).upQueue = s.upQueue := rfl
@[simp] theorem latchPart_cycleSlot (k : PartKind) (d : List Word) (s : State) :
    (latchPart k d s).cycleSlot = s.cycleSlot := rfl
@[simp] theorem latchPart_measuresSincePass (k : PartKind) (d : List Word) (s : State) :
    (latchPart k d s).measuresSincePass = s.measuresSincePass := rfl
@[simp] theorem latchPart_part (k : PartKind) (d : List Word) (s : State) :
    (latchPart k d s).part = s.part := rfl
@[simp] theorem latchPart_streamMap (k : PartKind) (d : List Word) (s : State) :
    (latchPart k d s).streamMap = s.streamMap := rfl
@[simp] theorem latchPart_contexts (k : PartKind) (d : List Word) (s : State) :
    (latchPart k d s).contexts = s.contexts := rfl
@[simp] theorem latchPart_lastCycle (k : PartKind) (d : List Word) (s : State) :
    (latchPart k d s).lastCycle = s.lastCycle := rfl
@[simp] theorem latchPart_marks (k : PartKind) (d : List Word) (s : State) :
    (latchPart k d s).marks = s.marks := rfl
@[simp] theorem latchPart_selectionMap (k : PartKind) (d : List Word) (s : State) :
    (latchPart k d s).selectionMap = s.selectionMap := rfl
@[simp] theorem latchPart_profiles (k : PartKind) (d : List Word) (s : State) :
    (latchPart k d s).profiles = s.profiles := rfl
@[simp] theorem latchPart_generation (k : PartKind) (d : List Word) (s : State) :
    (latchPart k d s).generation = s.generation := rfl
@[simp] theorem latchPart_staging (k : PartKind) (d : List Word) (s : State) :
    (latchPart k d s).staging = s.staging := rfl
@[simp] theorem latchPart_commitPending (k : PartKind) (d : List Word) (s : State) :
    (latchPart k d s).commitPending = s.commitPending := rfl
@[simp] theorem latchPart_measureQueue (k : PartKind) (d : List Word) (s : State) :
    (latchPart k d s).measureQueue = s.measureQueue := rfl
@[simp] theorem latchPart_commandQueue (k : PartKind) (d : List Word) (s : State) :
    (latchPart k d s).commandQueue = s.commandQueue := rfl
@[simp] theorem latchPart_executing (k : PartKind) (d : List Word) (s : State) :
    (latchPart k d s).executing = s.executing := rfl
@[simp] theorem latchPart_recent (k : PartKind) (d : List Word) (s : State) :
    (latchPart k d s).recent = s.recent := rfl
@[simp] theorem latchPart_capture (k : PartKind) (d : List Word) (s : State) :
    (latchPart k d s).capture = s.capture := rfl
@[simp] theorem latchPart_reports (k : PartKind) (d : List Word) (s : State) :
    (latchPart k d s).reports = s.reports := rfl
@[simp] theorem latchPart_reservations (k : PartKind) (d : List Word) (s : State) :
    (latchPart k d s).reservations = s.reservations := rfl
@[simp] theorem latchPart_nextReportSeq (k : PartKind) (d : List Word) (s : State) :
    (latchPart k d s).nextReportSeq = s.nextReportSeq := rfl
@[simp] theorem latchPart_path (k : PartKind) (d : List Word) (s : State) :
    (latchPart k d s).path = s.path := rfl
@[simp] theorem latchPart_retryTimer (k : PartKind) (d : List Word) (s : State) :
    (latchPart k d s).retryTimer = s.retryTimer := rfl
@[simp] theorem latchPart_retryCount (k : PartKind) (d : List Word) (s : State) :
    (latchPart k d s).retryCount = s.retryCount := rfl
@[simp] theorem latchPart_retryInterval (k : PartKind) (d : List Word) (s : State) :
    (latchPart k d s).retryInterval = s.retryInterval := rfl
@[simp] theorem latchPart_retryLimit (k : PartKind) (d : List Word) (s : State) :
    (latchPart k d s).retryLimit = s.retryLimit := rfl
@[simp] theorem latchPart_partLatch (k : PartKind) (d : List Word) (s : State) :
    (latchPart k d s).partLatch = latchAdd k.code k.coalescing d s.partLatch := rfl
@[simp] theorem latchPart_scan (k : PartKind) (d : List Word) (s : State) :
    (latchPart k d s).scan = s.scan := rfl

/-! ### `queueReport` -/

@[simp] theorem queueReport_pending (b : ReportBody) (s : State) :
    (queueReport b s).pending = s.pending := rfl
@[simp] theorem queueReport_draws (b : ReportBody) (s : State) :
    (queueReport b s).draws = s.draws := rfl
@[simp] theorem queueReport_resetHeld (b : ReportBody) (s : State) :
    (queueReport b s).resetHeld = s.resetHeld := rfl
@[simp] theorem queueReport_fieldLink (b : ReportBody) (s : State) :
    (queueReport b s).fieldLink = s.fieldLink := rfl
@[simp] theorem queueReport_controlLink (b : ReportBody) (s : State) :
    (queueReport b s).controlLink = s.controlLink := rfl
@[simp] theorem queueReport_fieldTx (b : ReportBody) (s : State) :
    (queueReport b s).fieldTx = s.fieldTx := rfl
@[simp] theorem queueReport_controlTx (b : ReportBody) (s : State) :
    (queueReport b s).controlTx = s.controlTx := rfl
@[simp] theorem queueReport_downQueue (b : ReportBody) (s : State) :
    (queueReport b s).downQueue = s.downQueue := rfl
@[simp] theorem queueReport_upQueue (b : ReportBody) (s : State) :
    (queueReport b s).upQueue = s.upQueue := rfl
@[simp] theorem queueReport_cycleSlot (b : ReportBody) (s : State) :
    (queueReport b s).cycleSlot = s.cycleSlot := rfl
@[simp] theorem queueReport_measuresSincePass (b : ReportBody) (s : State) :
    (queueReport b s).measuresSincePass = s.measuresSincePass := rfl
@[simp] theorem queueReport_part (b : ReportBody) (s : State) :
    (queueReport b s).part = s.part := rfl
@[simp] theorem queueReport_streamMap (b : ReportBody) (s : State) :
    (queueReport b s).streamMap = s.streamMap := rfl
@[simp] theorem queueReport_contexts (b : ReportBody) (s : State) :
    (queueReport b s).contexts = s.contexts := rfl
@[simp] theorem queueReport_lastCycle (b : ReportBody) (s : State) :
    (queueReport b s).lastCycle = s.lastCycle := rfl
@[simp] theorem queueReport_marks (b : ReportBody) (s : State) :
    (queueReport b s).marks = s.marks := rfl
@[simp] theorem queueReport_selectionMap (b : ReportBody) (s : State) :
    (queueReport b s).selectionMap = s.selectionMap := rfl
@[simp] theorem queueReport_profiles (b : ReportBody) (s : State) :
    (queueReport b s).profiles = s.profiles := rfl
@[simp] theorem queueReport_generation (b : ReportBody) (s : State) :
    (queueReport b s).generation = s.generation := rfl
@[simp] theorem queueReport_staging (b : ReportBody) (s : State) :
    (queueReport b s).staging = s.staging := rfl
@[simp] theorem queueReport_commitPending (b : ReportBody) (s : State) :
    (queueReport b s).commitPending = s.commitPending := rfl
@[simp] theorem queueReport_measureQueue (b : ReportBody) (s : State) :
    (queueReport b s).measureQueue = s.measureQueue := rfl
@[simp] theorem queueReport_commandQueue (b : ReportBody) (s : State) :
    (queueReport b s).commandQueue = s.commandQueue := rfl
@[simp] theorem queueReport_executing (b : ReportBody) (s : State) :
    (queueReport b s).executing = s.executing := rfl
@[simp] theorem queueReport_recent (b : ReportBody) (s : State) :
    (queueReport b s).recent = s.recent := rfl
@[simp] theorem queueReport_capture (b : ReportBody) (s : State) :
    (queueReport b s).capture = s.capture := rfl
@[simp] theorem queueReport_reports (b : ReportBody) (s : State) :
    (queueReport b s).reports = s.reports ++ [{ seq := s.nextReportSeq, sent := false, body := b }] := rfl
@[simp] theorem queueReport_reservations (b : ReportBody) (s : State) :
    (queueReport b s).reservations = s.reservations := rfl
@[simp] theorem queueReport_nextReportSeq (b : ReportBody) (s : State) :
    (queueReport b s).nextReportSeq = s.nextReportSeq + 1 := rfl
@[simp] theorem queueReport_path (b : ReportBody) (s : State) :
    (queueReport b s).path = s.path := rfl
@[simp] theorem queueReport_retryTimer (b : ReportBody) (s : State) :
    (queueReport b s).retryTimer = s.retryTimer := rfl
@[simp] theorem queueReport_retryCount (b : ReportBody) (s : State) :
    (queueReport b s).retryCount = s.retryCount := rfl
@[simp] theorem queueReport_retryInterval (b : ReportBody) (s : State) :
    (queueReport b s).retryInterval = s.retryInterval := rfl
@[simp] theorem queueReport_retryLimit (b : ReportBody) (s : State) :
    (queueReport b s).retryLimit = s.retryLimit := rfl
@[simp] theorem queueReport_partLatch (b : ReportBody) (s : State) :
    (queueReport b s).partLatch = s.partLatch := rfl
@[simp] theorem queueReport_scan (b : ReportBody) (s : State) :
    (queueReport b s).scan = s.scan := rfl

/-! ### `queueFinal` -/

@[simp] theorem queueFinal_pending (c : Command) (o : CommandOutcome) (n : Byte) (d : List Word) (s : State) :
    (queueFinal c o n d s).pending = s.pending := rfl
@[simp] theorem queueFinal_draws (c : Command) (o : CommandOutcome) (n : Byte) (d : List Word) (s : State) :
    (queueFinal c o n d s).draws = s.draws := rfl
@[simp] theorem queueFinal_resetHeld (c : Command) (o : CommandOutcome) (n : Byte) (d : List Word) (s : State) :
    (queueFinal c o n d s).resetHeld = s.resetHeld := rfl
@[simp] theorem queueFinal_fieldLink (c : Command) (o : CommandOutcome) (n : Byte) (d : List Word) (s : State) :
    (queueFinal c o n d s).fieldLink = s.fieldLink := rfl
@[simp] theorem queueFinal_controlLink (c : Command) (o : CommandOutcome) (n : Byte) (d : List Word) (s : State) :
    (queueFinal c o n d s).controlLink = s.controlLink := rfl
@[simp] theorem queueFinal_fieldTx (c : Command) (o : CommandOutcome) (n : Byte) (d : List Word) (s : State) :
    (queueFinal c o n d s).fieldTx = s.fieldTx := rfl
@[simp] theorem queueFinal_controlTx (c : Command) (o : CommandOutcome) (n : Byte) (d : List Word) (s : State) :
    (queueFinal c o n d s).controlTx = s.controlTx := rfl
@[simp] theorem queueFinal_downQueue (c : Command) (o : CommandOutcome) (n : Byte) (d : List Word) (s : State) :
    (queueFinal c o n d s).downQueue = s.downQueue := rfl
@[simp] theorem queueFinal_upQueue (c : Command) (o : CommandOutcome) (n : Byte) (d : List Word) (s : State) :
    (queueFinal c o n d s).upQueue = s.upQueue := rfl
@[simp] theorem queueFinal_cycleSlot (c : Command) (o : CommandOutcome) (n : Byte) (d : List Word) (s : State) :
    (queueFinal c o n d s).cycleSlot = s.cycleSlot := rfl
@[simp] theorem queueFinal_measuresSincePass (c : Command) (o : CommandOutcome) (n : Byte) (d : List Word) (s : State) :
    (queueFinal c o n d s).measuresSincePass = s.measuresSincePass := rfl
@[simp] theorem queueFinal_part (c : Command) (o : CommandOutcome) (n : Byte) (d : List Word) (s : State) :
    (queueFinal c o n d s).part = s.part := rfl
@[simp] theorem queueFinal_streamMap (c : Command) (o : CommandOutcome) (n : Byte) (d : List Word) (s : State) :
    (queueFinal c o n d s).streamMap = s.streamMap := rfl
@[simp] theorem queueFinal_contexts (c : Command) (o : CommandOutcome) (n : Byte) (d : List Word) (s : State) :
    (queueFinal c o n d s).contexts = s.contexts := rfl
@[simp] theorem queueFinal_lastCycle (c : Command) (o : CommandOutcome) (n : Byte) (d : List Word) (s : State) :
    (queueFinal c o n d s).lastCycle = s.lastCycle := rfl
@[simp] theorem queueFinal_marks (c : Command) (o : CommandOutcome) (n : Byte) (d : List Word) (s : State) :
    (queueFinal c o n d s).marks = s.marks := rfl
@[simp] theorem queueFinal_selectionMap (c : Command) (o : CommandOutcome) (n : Byte) (d : List Word) (s : State) :
    (queueFinal c o n d s).selectionMap = s.selectionMap := rfl
@[simp] theorem queueFinal_profiles (c : Command) (o : CommandOutcome) (n : Byte) (d : List Word) (s : State) :
    (queueFinal c o n d s).profiles = s.profiles := rfl
@[simp] theorem queueFinal_generation (c : Command) (o : CommandOutcome) (n : Byte) (d : List Word) (s : State) :
    (queueFinal c o n d s).generation = s.generation := rfl
@[simp] theorem queueFinal_staging (c : Command) (o : CommandOutcome) (n : Byte) (d : List Word) (s : State) :
    (queueFinal c o n d s).staging = s.staging := rfl
@[simp] theorem queueFinal_commitPending (c : Command) (o : CommandOutcome) (n : Byte) (d : List Word) (s : State) :
    (queueFinal c o n d s).commitPending = s.commitPending := rfl
@[simp] theorem queueFinal_measureQueue (c : Command) (o : CommandOutcome) (n : Byte) (d : List Word) (s : State) :
    (queueFinal c o n d s).measureQueue = s.measureQueue := rfl
@[simp] theorem queueFinal_commandQueue (c : Command) (o : CommandOutcome) (n : Byte) (d : List Word) (s : State) :
    (queueFinal c o n d s).commandQueue = s.commandQueue := rfl
@[simp] theorem queueFinal_executing (c : Command) (o : CommandOutcome) (n : Byte) (d : List Word) (s : State) :
    (queueFinal c o n d s).executing = s.executing := rfl
@[simp] theorem queueFinal_recent (c : Command) (o : CommandOutcome) (n : Byte) (d : List Word) (s : State) :
    (queueFinal c o n d s).recent = s.recent := rfl
@[simp] theorem queueFinal_capture (c : Command) (o : CommandOutcome) (n : Byte) (d : List Word) (s : State) :
    (queueFinal c o n d s).capture = s.capture := rfl
@[simp] theorem queueFinal_reports (c : Command) (o : CommandOutcome) (n : Byte) (d : List Word) (s : State) :
    (queueFinal c o n d s).reports = s.reports
        ++ [{ seq := s.nextReportSeq, sent := false, body := .completion c.tag c.code.toByte o n c.contextField d }] := rfl
@[simp] theorem queueFinal_reservations (c : Command) (o : CommandOutcome) (n : Byte) (d : List Word) (s : State) :
    (queueFinal c o n d s).reservations = s.reservations - 1 := rfl
@[simp] theorem queueFinal_nextReportSeq (c : Command) (o : CommandOutcome) (n : Byte) (d : List Word) (s : State) :
    (queueFinal c o n d s).nextReportSeq = s.nextReportSeq + 1 := rfl
@[simp] theorem queueFinal_path (c : Command) (o : CommandOutcome) (n : Byte) (d : List Word) (s : State) :
    (queueFinal c o n d s).path = s.path := rfl
@[simp] theorem queueFinal_retryTimer (c : Command) (o : CommandOutcome) (n : Byte) (d : List Word) (s : State) :
    (queueFinal c o n d s).retryTimer = s.retryTimer := rfl
@[simp] theorem queueFinal_retryCount (c : Command) (o : CommandOutcome) (n : Byte) (d : List Word) (s : State) :
    (queueFinal c o n d s).retryCount = s.retryCount := rfl
@[simp] theorem queueFinal_retryInterval (c : Command) (o : CommandOutcome) (n : Byte) (d : List Word) (s : State) :
    (queueFinal c o n d s).retryInterval = s.retryInterval := rfl
@[simp] theorem queueFinal_retryLimit (c : Command) (o : CommandOutcome) (n : Byte) (d : List Word) (s : State) :
    (queueFinal c o n d s).retryLimit = s.retryLimit := rfl
@[simp] theorem queueFinal_partLatch (c : Command) (o : CommandOutcome) (n : Byte) (d : List Word) (s : State) :
    (queueFinal c o n d s).partLatch = s.partLatch := rfl
@[simp] theorem queueFinal_scan (c : Command) (o : CommandOutcome) (n : Byte) (d : List Word) (s : State) :
    (queueFinal c o n d s).scan = s.scan := rfl

/-! ### `State.setLink` -/

@[simp] theorem State.setLink_pending (p : Port) (l : Link) (s : State) :
    (s.setLink p l).pending = s.pending := by cases p <;> rfl
@[simp] theorem State.setLink_draws (p : Port) (l : Link) (s : State) :
    (s.setLink p l).draws = s.draws := by cases p <;> rfl
@[simp] theorem State.setLink_resetHeld (p : Port) (l : Link) (s : State) :
    (s.setLink p l).resetHeld = s.resetHeld := by cases p <;> rfl
@[simp] theorem State.setLink_fieldTx (p : Port) (l : Link) (s : State) :
    (s.setLink p l).fieldTx = s.fieldTx := by cases p <;> rfl
@[simp] theorem State.setLink_controlTx (p : Port) (l : Link) (s : State) :
    (s.setLink p l).controlTx = s.controlTx := by cases p <;> rfl
@[simp] theorem State.setLink_downQueue (p : Port) (l : Link) (s : State) :
    (s.setLink p l).downQueue = s.downQueue := by cases p <;> rfl
@[simp] theorem State.setLink_upQueue (p : Port) (l : Link) (s : State) :
    (s.setLink p l).upQueue = s.upQueue := by cases p <;> rfl
@[simp] theorem State.setLink_cycleSlot (p : Port) (l : Link) (s : State) :
    (s.setLink p l).cycleSlot = s.cycleSlot := by cases p <;> rfl
@[simp] theorem State.setLink_measuresSincePass (p : Port) (l : Link) (s : State) :
    (s.setLink p l).measuresSincePass = s.measuresSincePass := by cases p <;> rfl
@[simp] theorem State.setLink_part (p : Port) (l : Link) (s : State) :
    (s.setLink p l).part = s.part := by cases p <;> rfl
@[simp] theorem State.setLink_streamMap (p : Port) (l : Link) (s : State) :
    (s.setLink p l).streamMap = s.streamMap := by cases p <;> rfl
@[simp] theorem State.setLink_contexts (p : Port) (l : Link) (s : State) :
    (s.setLink p l).contexts = s.contexts := by cases p <;> rfl
@[simp] theorem State.setLink_lastCycle (p : Port) (l : Link) (s : State) :
    (s.setLink p l).lastCycle = s.lastCycle := by cases p <;> rfl
@[simp] theorem State.setLink_marks (p : Port) (l : Link) (s : State) :
    (s.setLink p l).marks = s.marks := by cases p <;> rfl
@[simp] theorem State.setLink_selectionMap (p : Port) (l : Link) (s : State) :
    (s.setLink p l).selectionMap = s.selectionMap := by cases p <;> rfl
@[simp] theorem State.setLink_profiles (p : Port) (l : Link) (s : State) :
    (s.setLink p l).profiles = s.profiles := by cases p <;> rfl
@[simp] theorem State.setLink_generation (p : Port) (l : Link) (s : State) :
    (s.setLink p l).generation = s.generation := by cases p <;> rfl
@[simp] theorem State.setLink_staging (p : Port) (l : Link) (s : State) :
    (s.setLink p l).staging = s.staging := by cases p <;> rfl
@[simp] theorem State.setLink_commitPending (p : Port) (l : Link) (s : State) :
    (s.setLink p l).commitPending = s.commitPending := by cases p <;> rfl
@[simp] theorem State.setLink_measureQueue (p : Port) (l : Link) (s : State) :
    (s.setLink p l).measureQueue = s.measureQueue := by cases p <;> rfl
@[simp] theorem State.setLink_commandQueue (p : Port) (l : Link) (s : State) :
    (s.setLink p l).commandQueue = s.commandQueue := by cases p <;> rfl
@[simp] theorem State.setLink_executing (p : Port) (l : Link) (s : State) :
    (s.setLink p l).executing = s.executing := by cases p <;> rfl
@[simp] theorem State.setLink_recent (p : Port) (l : Link) (s : State) :
    (s.setLink p l).recent = s.recent := by cases p <;> rfl
@[simp] theorem State.setLink_capture (p : Port) (l : Link) (s : State) :
    (s.setLink p l).capture = s.capture := by cases p <;> rfl
@[simp] theorem State.setLink_reports (p : Port) (l : Link) (s : State) :
    (s.setLink p l).reports = s.reports := by cases p <;> rfl
@[simp] theorem State.setLink_reservations (p : Port) (l : Link) (s : State) :
    (s.setLink p l).reservations = s.reservations := by cases p <;> rfl
@[simp] theorem State.setLink_nextReportSeq (p : Port) (l : Link) (s : State) :
    (s.setLink p l).nextReportSeq = s.nextReportSeq := by cases p <;> rfl
@[simp] theorem State.setLink_path (p : Port) (l : Link) (s : State) :
    (s.setLink p l).path = s.path := by cases p <;> rfl
@[simp] theorem State.setLink_retryTimer (p : Port) (l : Link) (s : State) :
    (s.setLink p l).retryTimer = s.retryTimer := by cases p <;> rfl
@[simp] theorem State.setLink_retryCount (p : Port) (l : Link) (s : State) :
    (s.setLink p l).retryCount = s.retryCount := by cases p <;> rfl
@[simp] theorem State.setLink_retryInterval (p : Port) (l : Link) (s : State) :
    (s.setLink p l).retryInterval = s.retryInterval := by cases p <;> rfl
@[simp] theorem State.setLink_retryLimit (p : Port) (l : Link) (s : State) :
    (s.setLink p l).retryLimit = s.retryLimit := by cases p <;> rfl
@[simp] theorem State.setLink_partLatch (p : Port) (l : Link) (s : State) :
    (s.setLink p l).partLatch = s.partLatch := by cases p <;> rfl
@[simp] theorem State.setLink_scan (p : Port) (l : Link) (s : State) :
    (s.setLink p l).scan = s.scan := by cases p <;> rfl

@[simp] theorem State.setLink_field (l : Link) (s : State) : s.setLink .field l = { s with fieldLink := l } := rfl
@[simp] theorem State.setLink_control (l : Link) (s : State) : s.setLink .control l = { s with controlLink := l } := rfl
@[simp] theorem State.link_field (s : State) : s.link .field = s.fieldLink := rfl
@[simp] theorem State.link_control (s : State) : s.link .control = s.controlLink := rfl
@[simp] theorem State.link_setLink_self (p : Port) (l : Link) (s : State) : (s.setLink p l).link p = l := by
  cases p <;> rfl

/-! ### Contexts -/

/-- The record just set is read back, and every other record is as before. -/
theorem State.context_setContext (i j : Fin 32) (c : Context) (s : State) :
    (s.setContext i c).context j = if i = j then c else s.context j := by
  by_cases h : i = j
  · subst h; simp [State.context, State.setContext]
  · simp [State.context, State.setContext, h, Fin.val_inj]

@[simp] theorem State.context_setContext_self (i : Fin 32) (c : Context) (s : State) :
    (s.setContext i c).context i = c := by simp [State.context_setContext]

theorem State.context_setContext_ne {i j : Fin 32} (h : i ≠ j) (c : Context) (s : State) :
    (s.setContext i c).context j = s.context j := by simp [State.context_setContext, h]

@[simp] theorem contextTable_getElem (f : Fin 32 → Context) (i : Nat) (h : i < 32) :
    (contextTable f)[i] = f ⟨i, h⟩ := by
  simp [contextTable]

/-- The table of the records as they stand. -/
theorem contextTable_context (s : State) : (contextTable fun i => s.context i) = s.contexts := by
  apply Vector.ext; simp [State.context]

/-- Setting one record is the table with that record in its place. -/
theorem contextTable_set (s : State) (i : Fin 32) (c : Context) :
    (contextTable fun j => if i = j then c else s.context j) = s.contexts.set i c := by
  apply Vector.ext; intro j hj
  simp [State.context, Vector.getElem_set, Fin.ext_iff]

@[simp] theorem State.context_mapContexts (f : Context → Context) (i : Fin 32) (s : State) :
    (s.mapContexts f).context i = f (s.context i) := by
  simp [State.context, State.mapContexts]

/-- A test counted over the contexts, by their indices. -/
theorem State.countContexts_eq (s : State) (f : Context → Bool) :
    s.countContexts f = (List.finRange 32).countP fun i => f (s.context i) := by
  have h : s.contexts.toList = (List.finRange 32).map fun i => s.context i := by
    apply List.ext_getElem <;> simp [State.context]
  simp [State.countContexts, h, List.countP_map, Function.comp_def]

/-! ### `State.live` -/

@[simp] theorem State.live_of_released {s : State} (h : s.resetHeld = false) (f : State → State) :
    s.live f = f s := by simp [State.live, h]

@[simp] theorem State.live_of_held {s : State} (h : s.resetHeld = true) (f : State → State) : s.live f = s := by
  simp [State.live, h]

@[simp] theorem State.linkUp_of_released {s : State} (h : s.resetHeld = false) (p : Port) :
    s.linkUp p = (s.link p).up := by simp [State.linkUp, h]

end Sys2Proof.Machine
end

