-- ==== Sys2Proof/Laws/Arrivals.lean ====
section
/-! SUPPORT. What the arrival of a frame comes to (R181, R182), for every row that is a frame, and what the arrival of a
COMMAND frame comes to up to its admission (R121, R123). -/

namespace Sys2Proof.Machine

open Sys2Proof.Safety

/-- Every row that is a frame is the arrival of its words (log entry 8). -/
theorem exec_of_frame {r : Instr} {p : Port} {ws : List Word} (h : r.frame? = some (p, ws)) (s : State) :
    exec r s = .next (s.live (frameArrives p ws)) := by
  cases r <;> simp only [Instr.frame?, Option.some.injEq, Prod.mk.injEq, reduceCtorEq] at h <;>
    obtain ⟨rfl, rfl⟩ := h <;> rfl

/-- A good frame at a released part whose link is UP is handed on from the state that has counted it. -/
theorem frameArrives_of_hears {s : State} {p : Port} {ws : List Word} {u : FrameUse} {f : Frame}
    (h : HearsFrame s p ws u f) : s.live (frameArrives p ws) = handOn u f (heardAt p s) := by
  obtain ⟨hr, hu, hg⟩ := h
  simp [hr, frameArrives, hu, hg, heardAt]

/-- A bad frame at a released part whose link is UP is counted under its error. -/
theorem frameArrives_of_bad {s : State} {p : Port} {ws : List Word} {e : FrameError} (hr : s.resetHeld = false)
    (hu : (s.link p).up = true) (hb : receive p ws = .bad e) :
    s.live (frameArrives p ws) = countFrameError p e (s.setLink p { s.link p with midFrame := false }) := by
  simp [hr, frameArrives, hu, hb]

/-- A good COMMAND frame is admitted or refused from the state `heardCommand`. -/
theorem handOn_command (f : Frame) (s : State) :
    handOn .command f (heardAt .control s) = arbitrate (admission f.payload s.path (heardCommand s)) := by
  simp [handOn, commandArrives, heardCommand, heardAt, countGood]

/-! ### The state in which a COMMAND frame is met -/

@[simp] theorem recoverPath_idle {s : State} (h : s.path = .running) : recoverPath s = s := by
  simp [recoverPath, h]

@[simp] theorem heardCommand_path (s : State) : (heardCommand s).path = .running := by
  unfold heardCommand
  generalize countPart _ _ = x
  unfold recoverPath
  split
  · rfl
  · rename_i h; cases hx : x.path
    · rfl
    · exact absurd hx h

@[simp] theorem recoverPath_pending (s : State) : (recoverPath s).pending = s.pending := by
  unfold recoverPath; split <;> rfl
@[simp] theorem recoverPath_draws (s : State) : (recoverPath s).draws = s.draws := by
  unfold recoverPath; split <;> rfl
@[simp] theorem recoverPath_resetHeld (s : State) : (recoverPath s).resetHeld = s.resetHeld := by
  unfold recoverPath; split <;> rfl
@[simp] theorem recoverPath_fieldLink (s : State) : (recoverPath s).fieldLink = s.fieldLink := by
  unfold recoverPath; split <;> rfl
@[simp] theorem recoverPath_controlLink (s : State) : (recoverPath s).controlLink = s.controlLink := by
  unfold recoverPath; split <;> rfl
@[simp] theorem recoverPath_fieldTx (s : State) : (recoverPath s).fieldTx = s.fieldTx := by
  unfold recoverPath; split <;> rfl
@[simp] theorem recoverPath_controlTx (s : State) : (recoverPath s).controlTx = s.controlTx := by
  unfold recoverPath; split <;> rfl
@[simp] theorem recoverPath_downQueue (s : State) : (recoverPath s).downQueue = s.downQueue := by
  unfold recoverPath; split <;> rfl
@[simp] theorem recoverPath_upQueue (s : State) : (recoverPath s).upQueue = s.upQueue := by
  unfold recoverPath; split <;> rfl
@[simp] theorem recoverPath_cycleSlot (s : State) : (recoverPath s).cycleSlot = s.cycleSlot := by
  unfold recoverPath; split <;> rfl
@[simp] theorem recoverPath_measuresSincePass (s : State) : (recoverPath s).measuresSincePass = s.measuresSincePass := by
  unfold recoverPath; split <;> rfl
@[simp] theorem recoverPath_part (s : State) : (recoverPath s).part = s.part := by
  unfold recoverPath; split <;> rfl
@[simp] theorem recoverPath_streamMap (s : State) : (recoverPath s).streamMap = s.streamMap := by
  unfold recoverPath; split <;> rfl
@[simp] theorem recoverPath_contexts (s : State) : (recoverPath s).contexts = s.contexts := by
  unfold recoverPath; split <;> rfl
@[simp] theorem recoverPath_lastCycle (s : State) : (recoverPath s).lastCycle = s.lastCycle := by
  unfold recoverPath; split <;> rfl
@[simp] theorem recoverPath_marks (s : State) : (recoverPath s).marks = s.marks := by
  unfold recoverPath; split <;> rfl
@[simp] theorem recoverPath_selectionMap (s : State) : (recoverPath s).selectionMap = s.selectionMap := by
  unfold recoverPath; split <;> rfl
@[simp] theorem recoverPath_profiles (s : State) : (recoverPath s).profiles = s.profiles := by
  unfold recoverPath; split <;> rfl
@[simp] theorem recoverPath_generation (s : State) : (recoverPath s).generation = s.generation := by
  unfold recoverPath; split <;> rfl
@[simp] theorem recoverPath_staging (s : State) : (recoverPath s).staging = s.staging := by
  unfold recoverPath; split <;> rfl
@[simp] theorem recoverPath_commitPending (s : State) : (recoverPath s).commitPending = s.commitPending := by
  unfold recoverPath; split <;> rfl
@[simp] theorem recoverPath_measureQueue (s : State) : (recoverPath s).measureQueue = s.measureQueue := by
  unfold recoverPath; split <;> rfl
@[simp] theorem recoverPath_commandQueue (s : State) : (recoverPath s).commandQueue = s.commandQueue := by
  unfold recoverPath; split <;> rfl
@[simp] theorem recoverPath_executing (s : State) : (recoverPath s).executing = s.executing := by
  unfold recoverPath; split <;> rfl
@[simp] theorem recoverPath_recent (s : State) : (recoverPath s).recent = s.recent := by
  unfold recoverPath; split <;> rfl
@[simp] theorem recoverPath_capture (s : State) : (recoverPath s).capture = s.capture := by
  unfold recoverPath; split <;> rfl
@[simp] theorem recoverPath_reservations (s : State) : (recoverPath s).reservations = s.reservations := by
  unfold recoverPath; split <;> rfl
@[simp] theorem recoverPath_nextReportSeq (s : State) : (recoverPath s).nextReportSeq = s.nextReportSeq := by
  unfold recoverPath; split <;> rfl
@[simp] theorem recoverPath_retryInterval (s : State) : (recoverPath s).retryInterval = s.retryInterval := by
  unfold recoverPath; split <;> rfl
@[simp] theorem recoverPath_retryLimit (s : State) : (recoverPath s).retryLimit = s.retryLimit := by
  unfold recoverPath; split <;> rfl
@[simp] theorem recoverPath_partLatch (s : State) : (recoverPath s).partLatch = s.partLatch := by
  unfold recoverPath; split <;> rfl
@[simp] theorem recoverPath_scan (s : State) : (recoverPath s).scan = s.scan := by
  unfold recoverPath; split <;> rfl

@[simp] theorem heardAt_pending (p : Port) (s : State) : (heardAt p s).pending = s.pending := by
  simp only [heardAt, countGood, countPart_pending, State.setLink_pending]
@[simp] theorem heardAt_draws (p : Port) (s : State) : (heardAt p s).draws = s.draws := by
  simp only [heardAt, countGood, countPart_draws, State.setLink_draws]
@[simp] theorem heardAt_resetHeld (p : Port) (s : State) : (heardAt p s).resetHeld = s.resetHeld := by
  simp only [heardAt, countGood, countPart_resetHeld, State.setLink_resetHeld]
@[simp] theorem heardAt_fieldTx (p : Port) (s : State) : (heardAt p s).fieldTx = s.fieldTx := by
  simp only [heardAt, countGood, countPart_fieldTx, State.setLink_fieldTx]
@[simp] theorem heardAt_controlTx (p : Port) (s : State) : (heardAt p s).controlTx = s.controlTx := by
  simp only [heardAt, countGood, countPart_controlTx, State.setLink_controlTx]
@[simp] theorem heardAt_downQueue (p : Port) (s : State) : (heardAt p s).downQueue = s.downQueue := by
  simp only [heardAt, countGood, countPart_downQueue, State.setLink_downQueue]
@[simp] theorem heardAt_upQueue (p : Port) (s : State) : (heardAt p s).upQueue = s.upQueue := by
  simp only [heardAt, countGood, countPart_upQueue, State.setLink_upQueue]
@[simp] theorem heardAt_cycleSlot (p : Port) (s : State) : (heardAt p s).cycleSlot = s.cycleSlot := by
  simp only [heardAt, countGood, countPart_cycleSlot, State.setLink_cycleSlot]
@[simp] theorem heardAt_measuresSincePass (p : Port) (s : State) : (heardAt p s).measuresSincePass = s.measuresSincePass := by
  simp only [heardAt, countGood, countPart_measuresSincePass, State.setLink_measuresSincePass]
@[simp] theorem heardAt_streamMap (p : Port) (s : State) : (heardAt p s).streamMap = s.streamMap := by
  simp only [heardAt, countGood, countPart_streamMap, State.setLink_streamMap]
@[simp] theorem heardAt_contexts (p : Port) (s : State) : (heardAt p s).contexts = s.contexts := by
  simp only [heardAt, countGood, countPart_contexts, State.setLink_contexts]
@[simp] theorem heardAt_lastCycle (p : Port) (s : State) : (heardAt p s).lastCycle = s.lastCycle := by
  simp only [heardAt, countGood, countPart_lastCycle, State.setLink_lastCycle]
@[simp] theorem heardAt_marks (p : Port) (s : State) : (heardAt p s).marks = s.marks := by
  simp only [heardAt, countGood, countPart_marks, State.setLink_marks]
@[simp] theorem heardAt_selectionMap (p : Port) (s : State) : (heardAt p s).selectionMap = s.selectionMap := by
  simp only [heardAt, countGood, countPart_selectionMap, State.setLink_selectionMap]
@[simp] theorem heardAt_profiles (p : Port) (s : State) : (heardAt p s).profiles = s.profiles := by
  simp only [heardAt, countGood, countPart_profiles, State.setLink_profiles]
@[simp] theorem heardAt_generation (p : Port) (s : State) : (heardAt p s).generation = s.generation := by
  simp only [heardAt, countGood, countPart_generation, State.setLink_generation]
@[simp] theorem heardAt_staging (p : Port) (s : State) : (heardAt p s).staging = s.staging := by
  simp only [heardAt, countGood, countPart_staging, State.setLink_staging]
@[simp] theorem heardAt_commitPending (p : Port) (s : State) : (heardAt p s).commitPending = s.commitPending := by
  simp only [heardAt, countGood, countPart_commitPending, State.setLink_commitPending]
@[simp] theorem heardAt_measureQueue (p : Port) (s : State) : (heardAt p s).measureQueue = s.measureQueue := by
  simp only [heardAt, countGood, countPart_measureQueue, State.setLink_measureQueue]
@[simp] theorem heardAt_commandQueue (p : Port) (s : State) : (heardAt p s).commandQueue = s.commandQueue := by
  simp only [heardAt, countGood, countPart_commandQueue, State.setLink_commandQueue]
@[simp] theorem heardAt_executing (p : Port) (s : State) : (heardAt p s).executing = s.executing := by
  simp only [heardAt, countGood, countPart_executing, State.setLink_executing]
@[simp] theorem heardAt_recent (p : Port) (s : State) : (heardAt p s).recent = s.recent := by
  simp only [heardAt, countGood, countPart_recent, State.setLink_recent]
@[simp] theorem heardAt_capture (p : Port) (s : State) : (heardAt p s).capture = s.capture := by
  simp only [heardAt, countGood, countPart_capture, State.setLink_capture]
@[simp] theorem heardAt_reports (p : Port) (s : State) : (heardAt p s).reports = s.reports := by
  simp only [heardAt, countGood, countPart_reports, State.setLink_reports]
@[simp] theorem heardAt_reservations (p : Port) (s : State) : (heardAt p s).reservations = s.reservations := by
  simp only [heardAt, countGood, countPart_reservations, State.setLink_reservations]
@[simp] theorem heardAt_nextReportSeq (p : Port) (s : State) : (heardAt p s).nextReportSeq = s.nextReportSeq := by
  simp only [heardAt, countGood, countPart_nextReportSeq, State.setLink_nextReportSeq]
@[simp] theorem heardAt_path (p : Port) (s : State) : (heardAt p s).path = s.path := by
  simp only [heardAt, countGood, countPart_path, State.setLink_path]
@[simp] theorem heardAt_retryTimer (p : Port) (s : State) : (heardAt p s).retryTimer = s.retryTimer := by
  simp only [heardAt, countGood, countPart_retryTimer, State.setLink_retryTimer]
@[simp] theorem heardAt_retryCount (p : Port) (s : State) : (heardAt p s).retryCount = s.retryCount := by
  simp only [heardAt, countGood, countPart_retryCount, State.setLink_retryCount]
@[simp] theorem heardAt_retryInterval (p : Port) (s : State) : (heardAt p s).retryInterval = s.retryInterval := by
  simp only [heardAt, countGood, countPart_retryInterval, State.setLink_retryInterval]
@[simp] theorem heardAt_retryLimit (p : Port) (s : State) : (heardAt p s).retryLimit = s.retryLimit := by
  simp only [heardAt, countGood, countPart_retryLimit, State.setLink_retryLimit]
@[simp] theorem heardAt_partLatch (p : Port) (s : State) : (heardAt p s).partLatch = s.partLatch := by
  simp only [heardAt, countGood, countPart_partLatch, State.setLink_partLatch]
@[simp] theorem heardAt_scan (p : Port) (s : State) : (heardAt p s).scan = s.scan := by
  simp only [heardAt, countGood, countPart_scan, State.setLink_scan]

@[simp] theorem heardCommand_pending (s : State) : (heardCommand s).pending = s.pending := by
  simp only [heardCommand, recoverPath_pending, countPart_pending, heardAt_pending]
@[simp] theorem heardCommand_draws (s : State) : (heardCommand s).draws = s.draws := by
  simp only [heardCommand, recoverPath_draws, countPart_draws, heardAt_draws]
@[simp] theorem heardCommand_resetHeld (s : State) : (heardCommand s).resetHeld = s.resetHeld := by
  simp only [heardCommand, recoverPath_resetHeld, countPart_resetHeld, heardAt_resetHeld]
@[simp] theorem heardCommand_fieldLink (s : State) : (heardCommand s).fieldLink = s.fieldLink := by
  simp [heardCommand, heardAt, countGood]
@[simp] theorem heardCommand_fieldTx (s : State) : (heardCommand s).fieldTx = s.fieldTx := by
  simp only [heardCommand, recoverPath_fieldTx, countPart_fieldTx, heardAt_fieldTx]
@[simp] theorem heardCommand_controlTx (s : State) : (heardCommand s).controlTx = s.controlTx := by
  simp only [heardCommand, recoverPath_controlTx, countPart_controlTx, heardAt_controlTx]
@[simp] theorem heardCommand_downQueue (s : State) : (heardCommand s).downQueue = s.downQueue := by
  simp only [heardCommand, recoverPath_downQueue, countPart_downQueue, heardAt_downQueue]
@[simp] theorem heardCommand_upQueue (s : State) : (heardCommand s).upQueue = s.upQueue := by
  simp only [heardCommand, recoverPath_upQueue, countPart_upQueue, heardAt_upQueue]
@[simp] theorem heardCommand_cycleSlot (s : State) : (heardCommand s).cycleSlot = s.cycleSlot := by
  simp only [heardCommand, recoverPath_cycleSlot, countPart_cycleSlot, heardAt_cycleSlot]
@[simp] theorem heardCommand_measuresSincePass (s : State) : (heardCommand s).measuresSincePass = s.measuresSincePass := by
  simp only [heardCommand, recoverPath_measuresSincePass, countPart_measuresSincePass, heardAt_measuresSincePass]
@[simp] theorem heardCommand_streamMap (s : State) : (heardCommand s).streamMap = s.streamMap := by
  simp only [heardCommand, recoverPath_streamMap, countPart_streamMap, heardAt_streamMap]
@[simp] theorem heardCommand_contexts (s : State) : (heardCommand s).contexts = s.contexts := by
  simp only [heardCommand, recoverPath_contexts, countPart_contexts, heardAt_contexts]
@[simp] theorem heardCommand_lastCycle (s : State) : (heardCommand s).lastCycle = s.lastCycle := by
  simp only [heardCommand, recoverPath_lastCycle, countPart_lastCycle, heardAt_lastCycle]
@[simp] theorem heardCommand_marks (s : State) : (heardCommand s).marks = s.marks := by
  simp only [heardCommand, recoverPath_marks, countPart_marks, heardAt_marks]
@[simp] theorem heardCommand_selectionMap (s : State) : (heardCommand s).selectionMap = s.selectionMap := by
  simp only [heardCommand, recoverPath_selectionMap, countPart_selectionMap, heardAt_selectionMap]
@[simp] theorem heardCommand_profiles (s : State) : (heardCommand s).profiles = s.profiles := by
  simp only [heardCommand, recoverPath_profiles, countPart_profiles, heardAt_profiles]
@[simp] theorem heardCommand_generation (s : State) : (heardCommand s).generation = s.generation := by
  simp only [heardCommand, recoverPath_generation, countPart_generation, heardAt_generation]
@[simp] theorem heardCommand_staging (s : State) : (heardCommand s).staging = s.staging := by
  simp only [heardCommand, recoverPath_staging, countPart_staging, heardAt_staging]
@[simp] theorem heardCommand_commitPending (s : State) : (heardCommand s).commitPending = s.commitPending := by
  simp only [heardCommand, recoverPath_commitPending, countPart_commitPending, heardAt_commitPending]
@[simp] theorem heardCommand_measureQueue (s : State) : (heardCommand s).measureQueue = s.measureQueue := by
  simp only [heardCommand, recoverPath_measureQueue, countPart_measureQueue, heardAt_measureQueue]
@[simp] theorem heardCommand_commandQueue (s : State) : (heardCommand s).commandQueue = s.commandQueue := by
  simp only [heardCommand, recoverPath_commandQueue, countPart_commandQueue, heardAt_commandQueue]
@[simp] theorem heardCommand_executing (s : State) : (heardCommand s).executing = s.executing := by
  simp only [heardCommand, recoverPath_executing, countPart_executing, heardAt_executing]
@[simp] theorem heardCommand_recent (s : State) : (heardCommand s).recent = s.recent := by
  simp only [heardCommand, recoverPath_recent, countPart_recent, heardAt_recent]
@[simp] theorem heardCommand_capture (s : State) : (heardCommand s).capture = s.capture := by
  simp only [heardCommand, recoverPath_capture, countPart_capture, heardAt_capture]
@[simp] theorem heardCommand_reservations (s : State) : (heardCommand s).reservations = s.reservations := by
  simp only [heardCommand, recoverPath_reservations, countPart_reservations, heardAt_reservations]
@[simp] theorem heardCommand_nextReportSeq (s : State) : (heardCommand s).nextReportSeq = s.nextReportSeq := by
  simp only [heardCommand, recoverPath_nextReportSeq, countPart_nextReportSeq, heardAt_nextReportSeq]
@[simp] theorem heardCommand_retryInterval (s : State) : (heardCommand s).retryInterval = s.retryInterval := by
  simp only [heardCommand, recoverPath_retryInterval, countPart_retryInterval, heardAt_retryInterval]
@[simp] theorem heardCommand_retryLimit (s : State) : (heardCommand s).retryLimit = s.retryLimit := by
  simp only [heardCommand, recoverPath_retryLimit, countPart_retryLimit, heardAt_retryLimit]
@[simp] theorem heardCommand_partLatch (s : State) : (heardCommand s).partLatch = s.partLatch := by
  simp only [heardCommand, recoverPath_partLatch, countPart_partLatch, heardAt_partLatch]
@[simp] theorem heardCommand_scan (s : State) : (heardCommand s).scan = s.scan := by
  simp only [heardCommand, recoverPath_scan, countPart_scan, heardAt_scan]

@[simp] theorem heardAt_context (p : Port) (s : State) (i : Fin 32) : (heardAt p s).context i = s.context i := by
  simp only [State.context, heardAt_contexts]

@[simp] theorem heardCommand_context (s : State) (i : Fin 32) : (heardCommand s).context i = s.context i := by
  simp only [State.context, heardCommand_contexts]

/-- What a COMMAND frame that is met adds to the counters: the port's good frames and the commands received. -/
@[simp] theorem heardCommand_part (s : State) :
    (heardCommand s).part
      = { s.part with
          controlGood := satAdd s.part.controlGood 1, commandsReceived := satAdd s.part.commandsReceived 1 } := by
  simp [heardCommand, heardAt, countGood]

@[simp] theorem heardCommand_reports_length (s : State) : (heardCommand s).reports.length = s.reports.length := by
  unfold heardCommand recoverPath unsendAll
  split <;> simp

@[simp] theorem heardCommand_reportLoad (s : State) : (heardCommand s).reportLoad = s.reportLoad := by
  simp [State.reportLoad]

end Sys2Proof.Machine
end

