-- ==== Sys2Proof/Laws/Tables.lean ====
section
/-! SUPPORT. What the operations over the sparse stores and the event latches do, entry by entry, and that they keep the
canonical form (log entry 11). -/

namespace Sys2Proof.Machine

theorem Table.get_put {w : Nat} {α : Type} (k k' : BitVec w) (v : α) (t : Table w α) :
    Table.get k' (Table.put k v t) = if k = k' then some v else Table.get k' t := by
  induction t with
  | nil => simp [Table.put, Table.get]
  | cons a rest ih =>
    obtain ⟨k1, v1⟩ := a
    simp only [Table.put]
    split
    · rename_i h; subst h; simp only [Table.get]; split <;> rfl
    · split
      · simp only [Table.get]
      · rename_i h1 h2
        simp only [Table.get, ih]
        split
        · rename_i h3; subst h3; rw [if_neg (fun e => h1 e.symm)]
        · rfl

theorem Table.get_erase {w : Nat} {α : Type} (k k' : BitVec w) (t : Table w α) :
    Table.get k' (Table.erase k t) = if k = k' then none else Table.get k' t := by
  induction t with
  | nil => simp [Table.erase, Table.get]
  | cons a rest ih =>
    obtain ⟨k1, v1⟩ := a
    simp only [Table.erase]
    split
    · rename_i h; subst h; rw [ih]; simp only [Table.get]; split <;> rfl
    · rename_i h
      simp only [Table.get, ih]
      split
      · rename_i h3; subst h3; rw [if_neg (fun e => h e.symm)]
      · rfl

theorem Table.mem_of_mem_erase {w : Nat} {α : Type} {k : BitVec w} {t : Table w α} {e : BitVec w × α}
    (h : e ∈ Table.erase k t) : e ∈ t := by
  induction t with
  | nil => exact h
  | cons a rest ih =>
    obtain ⟨k1, v1⟩ := a
    simp only [Table.erase] at h
    split at h
    · exact List.mem_cons_of_mem _ (ih h)
    · rcases List.mem_cons.1 h with h | h
      · exact h ▸ List.mem_cons_self
      · exact List.mem_cons_of_mem _ (ih h)

theorem Table.mem_of_mem_put {w : Nat} {α : Type} {k : BitVec w} {v : α} {t : Table w α} {e : BitVec w × α}
    (h : e ∈ Table.put k v t) : e = (k, v) ∨ e ∈ t := by
  induction t with
  | nil => simpa [Table.put] using h
  | cons a rest ih =>
    obtain ⟨k1, v1⟩ := a
    simp only [Table.put] at h
    split at h
    · rcases List.mem_cons.1 h with h | h <;> simp [h]
    · split at h
      · simp only [List.mem_cons] at h ⊢; tauto
      · rcases List.mem_cons.1 h with h | h
        · simp [h]
        · rcases ih h with h | h <;> simp [h]

theorem Table.erase_wf {w : Nat} {α : Type} {k : BitVec w} {t : Table w α} (h : Table.wf t) :
    Table.wf (Table.erase k t) := by
  induction t with
  | nil => exact h
  | cons a rest ih =>
    obtain ⟨k1, v1⟩ := a
    have h' := List.pairwise_cons.1 h
    simp only [Table.erase]
    split
    · exact ih h'.2
    · exact List.pairwise_cons.2 ⟨fun e he => h'.1 e (Table.mem_of_mem_erase he), ih h'.2⟩

theorem Table.put_wf {w : Nat} {α : Type} {k : BitVec w} {v : α} {t : Table w α} (h : Table.wf t) :
    Table.wf (Table.put k v t) := by
  induction t with
  | nil => simp [Table.put, Table.wf]
  | cons a rest ih =>
    obtain ⟨k1, v1⟩ := a
    have h' := List.pairwise_cons.1 h
    simp only [Table.put]
    split
    · rename_i h1; subst h1; exact List.pairwise_cons.2 ⟨h'.1, h'.2⟩
    · split
      · rename_i h1 h2
        refine List.pairwise_cons.2 ⟨fun e he => ?_, h⟩
        rcases List.mem_cons.1 he with he | he
        · exact he ▸ h2
        · exact BitVec.lt_trans h2 (h'.1 e he)
      · rename_i h1 h2
        refine List.pairwise_cons.2 ⟨fun e he => ?_, ih h'.2⟩
        rcases Table.mem_of_mem_put he with he | he
        · subst he
          have h3 : k1.toNat ≠ k.toNat := fun e => h1 (BitVec.eq_of_toNat_eq e)
          simp only [BitVec.lt_def] at h2 ⊢
          omega
        · exact h'.1 e he

/-- A store in canonical form is determined by its entries. -/
theorem Table.get_of_mem {w : Nat} {α : Type} {k : BitVec w} {v : α} {t : Table w α} (h : Table.wf t)
    (hm : (k, v) ∈ t) : Table.get k t = some v := by
  induction t with
  | nil => simp at hm
  | cons a rest ih =>
    obtain ⟨k1, v1⟩ := a
    have h' := List.pairwise_cons.1 h
    simp only [Table.get]
    rcases List.mem_cons.1 hm with e | e
    · simp only [Prod.mk.injEq] at e; rw [if_pos e.1.symm, e.2]
    · have := h'.1 _ e
      rw [if_neg (fun e => by subst e; simp at this)]
      exact ih h'.2 e

/-! ### Event latches -/

theorem latchAdd_get (code other : BitVec 4) (how : Coalescing) (detail : List Word) (l : Latch) :
    Table.get other (latchAdd code how detail l)
      = if code = other then
          match Table.get code l with
          | none => some { count := 1, detail := detail }
          | some e => some { count := satAdd e.count 1, detail := coalesce how e.detail detail }
        else Table.get other l := by
  unfold latchAdd
  cases Table.get code l <;> simp only [Table.get_put]

theorem latchAdd_wf {code : BitVec 4} {how : Coalescing} {detail : List Word} {l : Latch} (h : Table.wf l) :
    Table.wf (latchAdd code how detail l) := by
  unfold latchAdd; split <;> exact Table.put_wf h

/-! ### The Selection Map -/

theorem writeEntries_wf {start : Nat} {entries : List Word} {t : Table 8 (BitVec 6)} (h : Table.wf t) :
    Table.wf (writeEntries start entries t) := by
  induction entries generalizing start t with
  | nil => exact h
  | cons w rest ih =>
    simp only [writeEntries]; apply ih
    split
    · exact Table.erase_wf h
    · exact Table.put_wf h

/-- Entry start + i reads entry word i; every other entry reads as before (R69). -/
theorem writeEntries_get {start : Nat} {entries : List Word} (t : Table 8 (BitVec 6))
    (hs : start + entries.length ≤ 256) (k : BitVec 8) :
    Table.get k (writeEntries start entries t)
      = if start ≤ k.toNat ∧ k.toNat < start + entries.length then
          match entries[k.toNat - start]? with
          | some w => if w = 0xFFFF then none else some (w.setWidth 6)
          | none => none
        else Table.get k t := by
  induction entries generalizing start t with
  | nil => rw [if_neg (by simp only [List.length_nil]; omega)]; rfl
  | cons w rest ih =>
    simp only [List.length_cons] at hs
    simp only [writeEntries]
    rw [ih _ (by omega)]
    have hk := k.isLt
    have hkey : BitVec.ofNat 8 start = k ↔ start = k.toNat := by
      constructor
      · rintro rfl; simp; omega
      · intro h; apply BitVec.eq_of_toNat_eq; simp; omega
    by_cases h1 : start = k.toNat
    · have hkept : Table.get k (if w = 0xFFFF then Table.erase (BitVec.ofNat 8 start) t
          else Table.put (BitVec.ofNat 8 start) (w.setWidth 6) t)
            = if w = 0xFFFF then none else some (w.setWidth 6) := by
        split
        · rw [Table.get_erase, if_pos (hkey.2 h1)]
        · rw [Table.get_put, if_pos (hkey.2 h1)]
      have hin : start ≤ k.toNat ∧ k.toNat < start + (w :: rest).length := by
        rw [List.length_cons]; omega
      rw [hkept, if_neg (by omega), if_pos hin, show k.toNat - start = 0 by omega]
      rfl
    · have hne : ¬ BitVec.ofNat 8 start = k := fun e => h1 (hkey.1 e)
      have hrest : Table.get k (if w = 0xFFFF then Table.erase (BitVec.ofNat 8 start) t
          else Table.put (BitVec.ofNat 8 start) (w.setWidth 6) t) = Table.get k t := by
        split
        · rw [Table.get_erase, if_neg hne]
        · rw [Table.get_put, if_neg hne]
      rw [hrest]
      by_cases h2 : start + 1 ≤ k.toNat ∧ k.toNat < start + 1 + rest.length
      · rw [if_pos h2, if_pos (by rw [List.length_cons]; omega)]
        rw [show k.toNat - start = (k.toNat - (start + 1)) + 1 by omega, List.getElem?_cons_succ]
      · rw [if_neg h2, if_neg (by rw [List.length_cons]; omega)]

/-- The data words of MAP-READ, entry by entry (R71). -/
theorem readEntries_eq (start n : Nat) (t : Table 8 (BitVec 6)) :
    readEntries start n t
      = (List.range n).map fun i => profileWord (Table.get (BitVec.ofNat 8 (start + i)) t) := by
  induction n generalizing start with
  | zero => rfl
  | succ n ih =>
    rw [readEntries, ih, List.range_succ_eq_map]
    simp only [List.map_cons, List.map_map, Nat.add_zero]
    congr 1
    apply List.map_congr_left; intro i _; simp only [Function.comp]
    rw [show start + 1 + i = start + i.succ by omega]

/-! ### The Profile Table -/

theorem applyStaged_wf {staging : List Staged} {t : Table 6 Profile} (h : Table.wf t) :
    Table.wf (applyStaged staging t) := by
  unfold applyStaged
  induction staging generalizing t with
  | nil => exact h
  | cons e rest ih =>
    simp only [List.foldl_cons]; apply ih
    cases e.record
    · exact Table.erase_wf h
    · exact Table.put_wf h

/-- A target that is not staged keeps its record (R86). -/
theorem applyStaged_get_unstaged {staging : List Staged} {t : Table 6 Profile} {p : BitVec 6}
    (h : ∀ e ∈ staging, e.target ≠ p) : Table.get p (applyStaged staging t) = Table.get p t := by
  unfold applyStaged
  induction staging generalizing t with
  | nil => rfl
  | cons e rest ih =>
    simp only [List.foldl_cons]
    rw [ih fun x hx => h x (List.mem_cons_of_mem _ hx)]
    have := h e List.mem_cons_self
    cases e.record
    · rw [Table.get_erase, if_neg this]
    · rw [Table.get_put, if_neg this]

/-- A staged target reads its staged record when no target is staged twice (R80, R86). -/
theorem applyStaged_get {staging : List Staged} {t : Table 6 Profile} (hn : (staging.map Staged.target).Nodup)
    (p : BitVec 6) :
    Table.get p (applyStaged staging t)
      = match stagedRecord p staging with
        | some record => record
        | none => Table.get p t := by
  induction staging generalizing t with
  | nil => rfl
  | cons e rest ih =>
    simp only [List.map_cons, List.nodup_cons, List.mem_map, not_exists, not_and] at hn
    have hc : applyStaged (e :: rest) t
        = applyStaged rest (match e.record with | some r => Table.put e.target r t | none => Table.erase e.target t) :=
      rfl
    rw [hc]
    by_cases he : e.target = p
    · subst he
      rw [applyStaged_get_unstaged fun x hx => hn.1 x hx]
      simp only [stagedRecord, List.find?_cons, decide_true, Option.map_some]
      cases e.record
      · rw [Table.get_erase, if_pos rfl]
      · rw [Table.get_put, if_pos rfl]
    · rw [ih hn.2]
      simp only [stagedRecord, List.find?_cons, he, decide_false]
      have : Table.get p (match e.record with | some r => Table.put e.target r t | none => Table.erase e.target t)
          = Table.get p t := by
        cases e.record
        · rw [Table.get_erase, if_neg he]
        · rw [Table.get_put, if_neg he]
      rw [this]

end Sys2Proof.Machine
end

