-- ==== Sys2Proof/Laws/Commands.lean ====
section
/-! SUPPORT. What the shared operations of the Command Unit come to (R128 to R134, R155), and the operand forms written as
numbers. -/

namespace Sys2Proof.Machine

open Sys2Proof.Safety

/-! ### Operand forms -/

theorem targetContext_of_gt {w : Word} (h : 31 < w.toNat) : targetContext w = none := by
  simp [targetContext]; omega

theorem targetContext_natWord (i : Fin 32) : targetContext (natWord i) = some i := by
  have : (natWord i).toNat = i := by simp [natWord]; omega
  simp [targetContext, this]

theorem wordPair_eq (n : BitVec 32) : wordPair n = [natWord (n.toNat / 65536), natWord n.toNat] := by
  simp only [wordPair, natWord, List.cons.injEq, and_true]
  constructor <;> apply BitVec.eq_of_toNat_eq <;> simp [Nat.shiftRight_eq_div_pow]

theorem pairValue_eq (hi lo : Word) : pairValue hi lo = BitVec.ofNat 32 (hi.toNat * 65536 + lo.toNat) := by
  apply BitVec.eq_of_toNat_eq
  have := hi.isLt; have := lo.isLt
  simp only [pairValue, BitVec.toNat_append, BitVec.toNat_ofNat]
  rw [← Nat.shiftLeft_add_eq_or_of_lt lo.isLt, Nat.shiftLeft_eq]; omega

theorem Key.index_eq (k : Key) : k.index = BitVec.ofNat 8 (8 * k.node.toNat + k.channel.toNat) := by
  apply BitVec.eq_of_toNat_eq
  simp only [Key.index, BitVec.toNat_append, BitVec.toNat_ofNat]
  rw [← Nat.shiftLeft_add_eq_or_of_lt k.channel.isLt, Nat.shiftLeft_eq]
  have := k.node.isLt; have := k.channel.isLt; omega

theorem natWord_add (a b : Nat) : natWord a + natWord b = natWord (a + b) := by
  simp only [natWord, BitVec.ofNat_add]

/-! ### The states in which a command is met -/

/-- The state in which a queued command is taken is the one `enterQueue` makes. -/
theorem admitted_eq (q : QueuedCode) (tag : Byte) (s : State) :
    countPart (fun k => { k with commandsAdmitted := satAdd k.commandsAdmitted 1 })
        { heardCommand s with
          reservations := (heardCommand s).reservations + 1
          recent := enterRecent tag q.toByte (heardCommand s).recent }
      = admitted q tag s := by
  simp only [admitted, countPart, heardCommand_reservations, heardCommand_recent]

/-- The state in which an immediate command is carried out is the one `takeImmediate` makes. -/
theorem takenAtOnce_eq (i : ImmediateCode) (tag : Byte) (s : State) :
    enterImmediate tag i (countImmediate (heardCommand s)) = takenAtOnce i tag s := by
  simp only [enterImmediate, countImmediate, countPart, takenAtOnce, heardCommand_recent]

@[simp] theorem admitted_pending (q : QueuedCode) (tag : Byte) (s : State) : (admitted q tag s).pending = s.pending := by
  simp [admitted]
@[simp] theorem admitted_draws (q : QueuedCode) (tag : Byte) (s : State) : (admitted q tag s).draws = s.draws := by
  simp [admitted]
@[simp] theorem admitted_resetHeld (q : QueuedCode) (tag : Byte) (s : State) : (admitted q tag s).resetHeld = s.resetHeld := by
  simp [admitted]
@[simp] theorem admitted_fieldLink (q : QueuedCode) (tag : Byte) (s : State) : (admitted q tag s).fieldLink = s.fieldLink := by
  simp [admitted]
@[simp] theorem admitted_fieldTx (q : QueuedCode) (tag : Byte) (s : State) : (admitted q tag s).fieldTx = s.fieldTx := by
  simp [admitted]
@[simp] theorem admitted_controlTx (q : QueuedCode) (tag : Byte) (s : State) : (admitted q tag s).controlTx = s.controlTx := by
  simp [admitted]
@[simp] theorem admitted_downQueue (q : QueuedCode) (tag : Byte) (s : State) : (admitted q tag s).downQueue = s.downQueue := by
  simp [admitted]
@[simp] theorem admitted_upQueue (q : QueuedCode) (tag : Byte) (s : State) : (admitted q tag s).upQueue = s.upQueue := by
  simp [admitted]
@[simp] theorem admitted_cycleSlot (q : QueuedCode) (tag : Byte) (s : State) : (admitted q tag s).cycleSlot = s.cycleSlot := by
  simp [admitted]
@[simp] theorem admitted_measuresSincePass (q : QueuedCode) (tag : Byte) (s : State) : (admitted q tag s).measuresSincePass = s.measuresSincePass := by
  simp [admitted]
@[simp] theorem admitted_streamMap (q : QueuedCode) (tag : Byte) (s : State) : (admitted q tag s).streamMap = s.streamMap := by
  simp [admitted]
@[simp] theorem admitted_contexts (q : QueuedCode) (tag : Byte) (s : State) : (admitted q tag s).contexts = s.contexts := by
  simp [admitted]
@[simp] theorem admitted_lastCycle (q : QueuedCode) (tag : Byte) (s : State) : (admitted q tag s).lastCycle = s.lastCycle := by
  simp [admitted]
@[simp] theorem admitted_marks (q : QueuedCode) (tag : Byte) (s : State) : (admitted q tag s).marks = s.marks := by
  simp [admitted]
@[simp] theorem admitted_selectionMap (q : QueuedCode) (tag : Byte) (s : State) : (admitted q tag s).selectionMap = s.selectionMap := by
  simp [admitted]
@[simp] theorem admitted_profiles (q : QueuedCode) (tag : Byte) (s : State) : (admitted q tag s).profiles = s.profiles := by
  simp [admitted]
@[simp] theorem admitted_generation (q : QueuedCode) (tag : Byte) (s : State) : (admitted q tag s).generation = s.generation := by
  simp [admitted]
@[simp] theorem admitted_staging (q : QueuedCode) (tag : Byte) (s : State) : (admitted q tag s).staging = s.staging := by
  simp [admitted]
@[simp] theorem admitted_commitPending (q : QueuedCode) (tag : Byte) (s : State) : (admitted q tag s).commitPending = s.commitPending := by
  simp [admitted]
@[simp] theorem admitted_measureQueue (q : QueuedCode) (tag : Byte) (s : State) : (admitted q tag s).measureQueue = s.measureQueue := by
  simp [admitted]
@[simp] theorem admitted_commandQueue (q : QueuedCode) (tag : Byte) (s : State) : (admitted q tag s).commandQueue = s.commandQueue := by
  simp [admitted]
@[simp] theorem admitted_executing (q : QueuedCode) (tag : Byte) (s : State) : (admitted q tag s).executing = s.executing := by
  simp [admitted]
@[simp] theorem admitted_capture (q : QueuedCode) (tag : Byte) (s : State) : (admitted q tag s).capture = s.capture := by
  simp [admitted]
@[simp] theorem admitted_nextReportSeq (q : QueuedCode) (tag : Byte) (s : State) : (admitted q tag s).nextReportSeq = s.nextReportSeq := by
  simp [admitted]
@[simp] theorem admitted_retryInterval (q : QueuedCode) (tag : Byte) (s : State) : (admitted q tag s).retryInterval = s.retryInterval := by
  simp [admitted]
@[simp] theorem admitted_retryLimit (q : QueuedCode) (tag : Byte) (s : State) : (admitted q tag s).retryLimit = s.retryLimit := by
  simp [admitted]
@[simp] theorem admitted_partLatch (q : QueuedCode) (tag : Byte) (s : State) : (admitted q tag s).partLatch = s.partLatch := by
  simp [admitted]
@[simp] theorem admitted_scan (q : QueuedCode) (tag : Byte) (s : State) : (admitted q tag s).scan = s.scan := by
  simp [admitted]
@[simp] theorem admitted_context (q : QueuedCode) (tag : Byte) (s : State) (j : Fin 32) : (admitted q tag s).context j = s.context j := by
  simp [State.context]

@[simp] theorem takenAtOnce_pending (i : ImmediateCode) (tag : Byte) (s : State) : (takenAtOnce i tag s).pending = s.pending := by
  simp [takenAtOnce]
@[simp] theorem takenAtOnce_draws (i : ImmediateCode) (tag : Byte) (s : State) : (takenAtOnce i tag s).draws = s.draws := by
  simp [takenAtOnce]
@[simp] theorem takenAtOnce_resetHeld (i : ImmediateCode) (tag : Byte) (s : State) : (takenAtOnce i tag s).resetHeld = s.resetHeld := by
  simp [takenAtOnce]
@[simp] theorem takenAtOnce_fieldLink (i : ImmediateCode) (tag : Byte) (s : State) : (takenAtOnce i tag s).fieldLink = s.fieldLink := by
  simp [takenAtOnce]
@[simp] theorem takenAtOnce_fieldTx (i : ImmediateCode) (tag : Byte) (s : State) : (takenAtOnce i tag s).fieldTx = s.fieldTx := by
  simp [takenAtOnce]
@[simp] theorem takenAtOnce_controlTx (i : ImmediateCode) (tag : Byte) (s : State) : (takenAtOnce i tag s).controlTx = s.controlTx := by
  simp [takenAtOnce]
@[simp] theorem takenAtOnce_downQueue (i : ImmediateCode) (tag : Byte) (s : State) : (takenAtOnce i tag s).downQueue = s.downQueue := by
  simp [takenAtOnce]
@[simp] theorem takenAtOnce_upQueue (i : ImmediateCode) (tag : Byte) (s : State) : (takenAtOnce i tag s).upQueue = s.upQueue := by
  simp [takenAtOnce]
@[simp] theorem takenAtOnce_cycleSlot (i : ImmediateCode) (tag : Byte) (s : State) : (takenAtOnce i tag s).cycleSlot = s.cycleSlot := by
  simp [takenAtOnce]
@[simp] theorem takenAtOnce_measuresSincePass (i : ImmediateCode) (tag : Byte) (s : State) : (takenAtOnce i tag s).measuresSincePass = s.measuresSincePass := by
  simp [takenAtOnce]
@[simp] theorem takenAtOnce_streamMap (i : ImmediateCode) (tag : Byte) (s : State) : (takenAtOnce i tag s).streamMap = s.streamMap := by
  simp [takenAtOnce]
@[simp] theorem takenAtOnce_contexts (i : ImmediateCode) (tag : Byte) (s : State) : (takenAtOnce i tag s).contexts = s.contexts := by
  simp [takenAtOnce]
@[simp] theorem takenAtOnce_lastCycle (i : ImmediateCode) (tag : Byte) (s : State) : (takenAtOnce i tag s).lastCycle = s.lastCycle := by
  simp [takenAtOnce]
@[simp] theorem takenAtOnce_marks (i : ImmediateCode) (tag : Byte) (s : State) : (takenAtOnce i tag s).marks = s.marks := by
  simp [takenAtOnce]
@[simp] theorem takenAtOnce_selectionMap (i : ImmediateCode) (tag : Byte) (s : State) : (takenAtOnce i tag s).selectionMap = s.selectionMap := by
  simp [takenAtOnce]
@[simp] theorem takenAtOnce_profiles (i : ImmediateCode) (tag : Byte) (s : State) : (takenAtOnce i tag s).profiles = s.profiles := by
  simp [takenAtOnce]
@[simp] theorem takenAtOnce_generation (i : ImmediateCode) (tag : Byte) (s : State) : (takenAtOnce i tag s).generation = s.generation := by
  simp [takenAtOnce]
@[simp] theorem takenAtOnce_staging (i : ImmediateCode) (tag : Byte) (s : State) : (takenAtOnce i tag s).staging = s.staging := by
  simp [takenAtOnce]
@[simp] theorem takenAtOnce_commitPending (i : ImmediateCode) (tag : Byte) (s : State) : (takenAtOnce i tag s).commitPending = s.commitPending := by
  simp [takenAtOnce]
@[simp] theorem takenAtOnce_measureQueue (i : ImmediateCode) (tag : Byte) (s : State) : (takenAtOnce i tag s).measureQueue = s.measureQueue := by
  simp [takenAtOnce]
@[simp] theorem takenAtOnce_commandQueue (i : ImmediateCode) (tag : Byte) (s : State) : (takenAtOnce i tag s).commandQueue = s.commandQueue := by
  simp [takenAtOnce]
@[simp] theorem takenAtOnce_executing (i : ImmediateCode) (tag : Byte) (s : State) : (takenAtOnce i tag s).executing = s.executing := by
  simp [takenAtOnce]
@[simp] theorem takenAtOnce_capture (i : ImmediateCode) (tag : Byte) (s : State) : (takenAtOnce i tag s).capture = s.capture := by
  simp [takenAtOnce]
@[simp] theorem takenAtOnce_reservations (i : ImmediateCode) (tag : Byte) (s : State) : (takenAtOnce i tag s).reservations = s.reservations := by
  simp [takenAtOnce]
@[simp] theorem takenAtOnce_nextReportSeq (i : ImmediateCode) (tag : Byte) (s : State) : (takenAtOnce i tag s).nextReportSeq = s.nextReportSeq := by
  simp [takenAtOnce]
@[simp] theorem takenAtOnce_retryInterval (i : ImmediateCode) (tag : Byte) (s : State) : (takenAtOnce i tag s).retryInterval = s.retryInterval := by
  simp [takenAtOnce]
@[simp] theorem takenAtOnce_retryLimit (i : ImmediateCode) (tag : Byte) (s : State) : (takenAtOnce i tag s).retryLimit = s.retryLimit := by
  simp [takenAtOnce]
@[simp] theorem takenAtOnce_partLatch (i : ImmediateCode) (tag : Byte) (s : State) : (takenAtOnce i tag s).partLatch = s.partLatch := by
  simp [takenAtOnce]
@[simp] theorem takenAtOnce_scan (i : ImmediateCode) (tag : Byte) (s : State) : (takenAtOnce i tag s).scan = s.scan := by
  simp [takenAtOnce]
@[simp] theorem takenAtOnce_context (i : ImmediateCode) (tag : Byte) (s : State) (j : Fin 32) : (takenAtOnce i tag s).context j = s.context j := by
  simp [State.context]

/-! ### The Command Queue -/

@[simp] theorem numbered_length (n : Word) (bodies : List ReportBody) : (numbered n bodies).length = bodies.length := by
  induction bodies generalizing n with
  | nil => rfl
  | cons b rest ih => simp only [numbered, List.length_cons, ih]

/-- A list of commands flushed one after another, each from its own reservation (R133). -/
theorem foldl_flushed (cmds : List Command) (s : State) :
    cmds.foldl (fun s c => queueFinal c .flushed 0 [] s) s
      = { s with
          reports := s.reports ++ numbered s.nextReportSeq (cmds.map fun c => finalBody c .flushed 0 [])
          nextReportSeq := s.nextReportSeq + natWord cmds.length
          reservations := s.reservations - cmds.length } := by
  induction cmds generalizing s with
  | nil => simp [numbered, natWord]
  | cons c rest ih =>
    rw [List.foldl_cons, ih]
    simp only [queueFinal, queueReport, List.map_cons, numbered, List.append_assoc, List.cons_append, List.nil_append,
      List.length_cons, finalBody]
    rw [BitVec.add_assoc, show (1 : Word) = natWord 1 from rfl, natWord_add,
      show s.reservations - 1 - rest.length = s.reservations - (rest.length + 1) by omega, Nat.add_comm 1]

theorem flush_eq (cmds : List Command) (s : State) :
    flush cmds s
      = { s with
          reports := s.reports ++ numbered s.nextReportSeq (cmds.map fun c => finalBody c .flushed 0 [])
          nextReportSeq := s.nextReportSeq + natWord cmds.length
          reservations := s.reservations - cmds.length
          commandQueue := []
          executing := false } := by
  simp only [flush, foldl_flushed]

/-- The executing command ends with an outcome other than DONE (R133, R134). -/
theorem resumeQueue_finishHead {o : CommandOutcome} (ho : o ≠ .done) (stage : Byte) (data : List Word) (s : State) :
    resumeQueue o (finishHead o stage data s) = endsFlushing o stage data s := by
  unfold resumeQueue finishHead endsFlushing
  rw [if_neg ho]
  cases h : s.commandQueue with
  | nil => simp only [flush_eq, h, numbered, List.map_nil, List.append_nil, natWord, List.length_nil, BitVec.add_zero,
      Nat.sub_zero]
  | cons c rest =>
    simp only [flush_eq]
    simp only [queueFinal, queueReport, finalBody, numbered, List.length_cons, List.append_assoc, List.cons_append,
      List.nil_append, List.length_map]
    rw [BitVec.add_assoc, show (1 : Word) = natWord 1 from rfl, natWord_add,
      show s.reservations - 1 - rest.length = s.reservations - (rest.length + 1) by omega, Nat.add_comm 1]

theorem Capture.data_early (k : Capture) (staged : Nat) : k.data 0 0 staged = earlyEndWords k staged := by
  simp only [Capture.data, earlyEndWords, CaptureSource.code]; rfl

/-- A capture that another event ends (R155 to R159). -/
theorem endCapture_eq {o : CommandOutcome} (ho : o ≠ .done) (k : Capture) (s : State) :
    endCapture o k s
      = endsFlushing o k.stage.code (earlyEndWords k s.staging.length) { s with capture := none } := by
  simp only [endCapture, reportCapture, Capture.data_early, resumeQueue_finishHead ho]

/-! ### Runs over several contexts -/

theorem runCounts_eq (f : Context → Bool) (s : State) :
    runCounts f s
      = [natWord ((List.finRange 32).countP fun i => f (s.context i)),
          natWord
            ((List.finRange 32).countP fun i =>
              f (s.context i)
                && ((s.context i).selectionRun s.selectionMap s.profiles).activeProfile
                  != (s.context i).activeProfile),
          natWord
            ((List.finRange 32).countP fun i =>
              f (s.context i) && (s.context i).runMisses s.selectionMap s.profiles)] := by
  simp only [runCounts, State.countContexts_eq]

theorem runMisses_of_auto {c : Context} {map : Table 8 (BitVec 6)} {profiles : Table 6 Profile} {d : Descriptor}
    (h : c.mode = .auto) (hd : c.descriptor = some d) :
    c.runMisses map profiles = !((Table.get (keyIndex d c.variant) map).any (validProfile profiles)) := by
  simp only [Context.runMisses, hd, h, mapHit]
  rcases Table.get (keyIndex d c.variant) map with _ | a
  · rfl
  · simp only [Option.any_some, Option.filter]
    cases validProfile profiles a <;> rfl

end Sys2Proof.Machine
end

