-- ==== Sys2Proof/Laws/Numbers.lean ====
section
/-! SUPPORT. The reading and building of frames, the accepted combinations, the lengths of SAMPLE frames and the CRC,
written with the numbers of the guide's tables (R55, R181, R182, R194). -/

namespace Sys2Proof.Machine

open Sys2Proof.Safety

/-! ### The header (R194) -/

/-- The header words of numbers within their fields. -/
theorem Header.words_of_numbers (h : Header) :
    h.words
      = [natWord (4096 * h.kind.toNat + 128 * h.dst.toNat + 4 * h.src.toNat),
          natWord (256 * h.seq.toNat + 32 * h.channel.toNat), natWord h.length.toNat] := by
  obtain ⟨kind, dst, src, seq, channel, length⟩ := h
  have := kind.isLt; have := dst.isLt; have := src.isLt; have := seq.isLt; have := channel.isLt; have := length.isLt
  simp only [Header.words, natWord, List.cons.injEq, and_true]
  refine ⟨?_, ?_, ?_⟩ <;> apply BitVec.eq_of_toNat_eq <;> simp only [BitVec.toNat_append, BitVec.toNat_ofNat]
  · rw [← Nat.shiftLeft_add_eq_or_of_lt dst.isLt, ← Nat.shiftLeft_add_eq_or_of_lt src.isLt]
    simp only [Nat.zero_mod, Nat.or_zero, Nat.shiftLeft_eq]; omega
  · rw [← Nat.shiftLeft_add_eq_or_of_lt channel.isLt]
    simp only [Nat.zero_mod, Nat.or_zero, Nat.shiftLeft_eq]; omega
  · simp; omega

/-- A built frame is the layout of its numbers. -/
theorem frameWords_eq_layout (kind : BitVec 4) (dst src : BitVec 5) (seq : Byte) (channel : BitVec 3)
    {payload : List Word} (h : payload.length ≤ 60) :
    frameWords kind dst src seq channel payload
      = layout kind.toNat dst.toNat src.toNat seq.toNat channel.toNat payload := by
  have e : (BitVec.ofNat 6 payload.length).toNat = payload.length := by simp; omega
  simp [frameWords, layout, Header.words_of_numbers, e]

/-- The header fields as quotients and remainders of the words. -/
theorem Header.read_toNat (w0 w1 w2 : Word) :
    (Header.read w0 w1 w2).kind.toNat = w0.toNat / 4096 ∧ (Header.read w0 w1 w2).dst.toNat = w0.toNat / 128 % 32
      ∧ (Header.read w0 w1 w2).src.toNat = w0.toNat / 4 % 32 ∧ (Header.read w0 w1 w2).length.toNat = w2.toNat % 64 := by
  have := w0.isLt
  simp only [Header.read, BitVec.extractLsb'_toNat, Nat.shiftRight_eq_div_pow, Nat.reducePow]
  refine ⟨by omega, trivial, trivial, by omega⟩

/-- The reserved bits as remainders and a quotient. -/
theorem reservedClear_iff (w0 w1 w2 : Word) :
    reservedClear w0 w1 w2 = true ↔ w0.toNat % 4 = 0 ∧ w1.toNat % 32 = 0 ∧ w2.toNat / 64 = 0 := by
  have := w2.isLt
  simp only [reservedClear, Bool.and_eq_true, decide_eq_true_eq, BitVec.toNat_eq, BitVec.extractLsb'_toNat,
    Nat.shiftRight_eq_div_pow, Nat.reducePow, BitVec.ofNat_eq_ofNat, BitVec.toNat_ofNat, Nat.zero_mod]
  omega

/-! ### Accepted combinations (R182) and lengths (R55) -/

/-- The ports accept the six rows of R182 and nothing else. -/
theorem acceptedUse_iff (p : Port) (kind : BitVec 4) (dst src : BitVec 5) (u : FrameUse) :
    acceptedUse p kind dst src = some u ↔ AcceptedCombination p kind.toNat dst.toNat src.toNat u := by
  cases p <;> cases u <;>
    simp only [acceptedUse, AcceptedCombination, isNode, kindSample, kindDescribe, kindPass, kindCommand, kindCycle,
      Bool.and_eq_true, decide_eq_true_eq, BitVec.toNat_eq] <;>
    (repeat' split) <;> simp_all

/-- The length check of R101 is R55's. -/
theorem lengthFits_iff (e : Encoding) (n : Nat) : lengthFits e n = true ↔ AllowedLength e n := by
  cases e <;> simp [lengthFits, AllowedLength, and_assoc]

/-! ### The CRC (R194) -/

/-- One bit of the CRC register over the numbers. -/
theorem crcBit_toNat (c : Word) (b : Bool) :
    (crcBit c b).toNat
      = if (c.toNat / 32768 + b.toNat) % 2 = 1 then (2 * c.toNat % 65536) ^^^ 0x1021 else 2 * c.toNat % 65536 := by
  have hc := c.isLt
  have hm : c.msb = decide (32768 ≤ c.toNat) := by simp [BitVec.msb_eq_decide]
  have hs : (c <<< 1).toNat = 2 * c.toNat % 65536 := by
    simp [BitVec.toNat_shiftLeft, Nat.shiftLeft_eq, Nat.mul_comm]
  by_cases h : 32768 ≤ c.toNat <;> cases b <;>
    simp [crcBit, hm, h, hs, BitVec.toNat_xor, show c.toNat / 32768 = if 32768 ≤ c.toNat then 1 else 0 by split <;> omega]

/-- Bit k of a word from its most significant end. -/
theorem getMsbD_toNat (w : Word) {k : Nat} (h : k < 16) : (w.getMsbD k).toNat = w.toNat / 2 ^ (15 - k) % 2 := by
  have e : w.getMsbD k = w.toNat.testBit (15 - k) := by
    simp [BitVec.getMsbD, h, BitVec.getLsbD]
  rw [e, Nat.testBit_eq_decide_div_mod_eq]
  rcases Nat.mod_two_eq_zero_or_one (w.toNat / 2 ^ (15 - k)) with h | h <;> simp [h]

/-- The CRC goes on from word to word. -/
theorem crc_append (ws : List Word) (w : Word) : crc (ws ++ [w]) = crcWord (crc ws) w := by
  simp [crc]

/-- One word of the CRC over the numbers, most significant bit first. -/
theorem crcWord_toNat (c w : Word) :
    (crcWord c w).toNat
      = (List.range 16).foldl
        (fun r k =>
          if (r / 32768 + w.toNat / 2 ^ (15 - k)) % 2 = 1 then (2 * r % 65536) ^^^ 0x1021 else 2 * r % 65536)
        c.toNat := by
  have key (l : List Nat) (h : ∀ k ∈ l, k < 16) (c : Word) :
      (l.foldl (fun c i => crcBit c (w.getMsbD i)) c).toNat
        = l.foldl
          (fun r k =>
            if (r / 32768 + w.toNat / 2 ^ (15 - k)) % 2 = 1 then (2 * r % 65536) ^^^ 0x1021 else 2 * r % 65536)
          c.toNat := by
    induction l generalizing c with
    | nil => rfl
    | cons k l ih =>
      simp only [List.foldl_cons]
      rw [ih (fun x hx => h x (List.mem_cons_of_mem _ hx)), crcBit_toNat, getMsbD_toNat w (h k List.mem_cons_self)]
      simp only [Nat.add_mod_mod]
  exact key _ (fun k hk => List.mem_range.1 hk) c

end Sys2Proof.Machine
end

