-- ==== Sys2Proof/Tests/Slice0.lean ====
section
/-! SUPPORT. Tests: what WellFormed refuses, words written out from the guide's tables, one small step for each row with its
result from the guide's own text, and for every statement with hypotheses a state and operands that meet them.

The CRC words below were computed outside the model. -/

namespace Sys2Proof.Tests

set_option Elab.async false

open Sys2Proof.Machine Sys2Proof.Safety

/-! ### Small states -/

/-- The part with both links UP. -/
def linked : State :=
  { State.reset with
    fieldLink := { up := true, locking := false, midFrame := false }
    controlLink := { up := true, locking := false, midFrame := false }
    partLatch := [] }

/-- The state after one command. -/
def after (c : Instr) (s : State) : State :=
  match exec c s with
  | .next t => t
  | .fault _ => s
  | .refused _ => s

/-- The frame of a queued command with tag 7. -/
def queuedFrame (q : QueuedCode) (target : Word) (params : List Word) : List Word :=
  commandWords 0 0 q.toByte 7 target params

/-- The frame of an immediate command with tag 7. -/
def immediateFrame (i : ImmediateCode) (params : List Word) : List Word := commandWords 0 0 i.toByte 7 0 params

/-- What the reports of a state say, without their sequences. -/
def bodies (s : State) : List ReportBody := s.reports.map Report.body

/-- The key of the stream used below: node 8, channel 1 (chapter 3, worked sequence). -/
def key81 : Key := { node := 8, channel := 1 }

/-- D1 of chapter 3's worked sequence. -/
def d1 : Descriptor := { cls := 2, range := 1, encoding := .signed16, unit := 5, serial := 0x00A10033 }

/-- The record of chapter 5's examples of conversion. -/
def record12 : Profile :=
  { inputOffset := 2048, gain := 1250, shift := 10, outputOffset := -500, clampLow := -100000, clampHigh := 100000,
    unit := 3 }

/-- A BOUND context of that key, lifetime 3. -/
def boundContext : Context := { Context.free with state := .bound, key := some key81, lifetime := 3 }

/-- The context after D1, ACTIVE on profile 12, its tracker at 50. -/
def activeContext : Context :=
  { boundContext with
    state := .active, descriptor := some d1, epoch := 1, remaining := 3, activeProfile := some 12, newProfile := true,
    tracker := .expect 50, outputSeq := 12 }

/-- Context 3 with this record, its stream, profile 12, and the map's entry for class 2, range 1, variant 0. -/
def stream (c : Context) : State :=
  { linked with
    streamMap := [(65, 3)], contexts := State.reset.contexts.set 3 c, profiles := [(12, record12)],
    selectionMap := [(34, 12)] }

/-- A SAMPLE frame of the stream. -/
def sampleWords (q : Byte) (payload : List Word) : List Word := frameWords kindSample 31 8 q 1 payload

/-- What the field port reads of it. -/
def sampleFrame (q : Byte) (payload : List Word) : Frame :=
  { src := 8, seq := q, channel := 1, payload := payload, words := sampleWords q payload }

/-- A DESCRIBE frame of the stream. -/
def describeWords (payload : List Word) : List Word := frameWords kindDescribe 31 8 0 1 payload

/-- What the field port reads of it. -/
def describeFrame (payload : List Word) : Frame :=
  { src := 8, seq := 0, channel := 1, payload := payload, words := describeWords payload }

/-- A CYCLE frame. -/
def cycleWords (payload : List Word) : List Word := frameWords kindCycle 31 0 0 0 payload

/-- What the control port reads of it. -/
def cycleFrame (payload : List Word) : Frame :=
  { src := 0, seq := 0, channel := 0, payload := payload, words := cycleWords payload }

/-- A COMMAND frame of any payload. -/
def payloadWords (payload : List Word) : List Word := frameWords kindCommand 31 0 0 0 payload

/-- What the control port reads of it. -/
def payloadFrame (payload : List Word) : Frame :=
  { src := 0, seq := 0, channel := 0, payload := payload, words := payloadWords payload }

/-- A NOP that waits. -/
def waitingNop (tag : Byte) : Command := { tag := tag, code := .nop, target := 0, params := [] }

/-- A pending commit at the head. -/
def headCommit : Command := { tag := 10, code := .profileCommit, target := 255, params := [] }

/-- A capture at the head. -/
def headCapture : Command := { tag := 20, code := .capture, target := 3, params := [12, 0, 2, 3, 0, 0] }

/-- A capture of two samples on context 3 from Profile Table record 12, ZERO, T 3, at this stage. -/
def capture12 (stage : CaptureStage) : Capture :=
  { context := 3, profile := 12, mode := .zero, n := 2, t := 3, reference := 0, source := .table, epoch := 1,
    stage := stage, sum := 0, count := 0, cycles := 0, gaps := 0 }

/-- The active stream with this capture executing and one NOP behind it. -/
def capturing (k : Capture) : State :=
  { stream activeContext with
    capture := some k, commandQueue := [headCapture, waitingNop 21], executing := true, reservations := 2 }

/-- The active stream with one staged retirement of profile 12, its commit pending, and one NOP behind it. -/
def committing : State :=
  { stream activeContext with
    staging := [{ target := 12, record := none }], commitPending := true,
    commandQueue := [headCommit, waitingNop 21], executing := true, reservations := 2 }

/-- A full Staging Area: retirements of profiles 0 to 7. -/
def eightStaged : List Staged := (List.range 8).map fun n => { target := BitVec.ofNat 6 n, record := none }

/-- An UNSENT or a SENT report. -/
def report (seq : Word) (sent : Bool) : Report := { seq := seq, sent := sent, body := .event .part 4 1 [] }

/-- Reports 40 to 42, the first two SENT, the timer running (chapter 9, worked sequence). -/
def reporting : State :=
  { linked with
    reports := [report 40 true, report 41 true, report 42 false], nextReportSeq := 43, retryTimer := some 20 }

/-- One mark of every kind on its way. -/
def marked (s : State) : State := { s with marks := { silence := 1, lifetime := 1, budget := 1, commit := 1, capture := 1 } }

/-! ### The CRC and words written out from the tables of R194 and R195 -/

/-- CRC-16 of the bytes 31H 32H 33H 34H with polynomial 0x1021 and initial value 0xFFFF. -/
theorem test_crc : crc [0x3132, 0x3334] = 0x5349 := by decide +kernel

/-- SAMPLE: kind 1, destination 31, source 12; sequence 40, channel 3; one payload word. -/
theorem test_word_sample :
    receive .field [0x1FB0, 0x2860, 1, 0x64, 0x1DB8]
      = .good .sample
        { src := 12, seq := 40, channel := 3, payload := [0x64], words := [0x1FB0, 0x2860, 1, 0x64, 0x1DB8] } := by
  decide +kernel

/-- DESCRIBE of D1: class 2, range 1, encoding 3, unit 5 make 0x1135. -/
theorem test_word_describe :
    receive .field [0x2FA0, 0x0020, 4, 0x1135, 0xA1, 0x33, 0, 0x4718]
        = .good .describe (describeFrame [0x1135, 0xA1, 0x33, 0])
      ∧ checkDescribe [0x1135, 0xA1, 0x33, 0] = .valid d1 := by
  decide +kernel

/-- CYCLE 200, and PASS frames of both directions. -/
theorem test_word_cycle_and_pass :
    frameCommand .control [0x3F80, 0xC800, 1, 200, 0xD9DF] = some (.cycle .control [0x3F80, 0xC800, 1, 200, 0xD9DF])
      ∧ frameCommand .field [0x7024, 0, 0, 0xCA3E] = some (.passUp .field [0x7024, 0, 0, 0xCA3E])
      ∧ frameCommand .control [0x7480, 0, 1, 0xABCD, 0xDBF3]
          = some (.passDown .control [0x7480, 0, 1, 0xABCD, 0xDBF3]) := by
  decide +kernel

/-- COMMAND frames: kind 4, destination 31, source 0, the code in bits 15-8 and the tag in bits 7-0 of payload word 0. -/
theorem test_word_command :
    frameCommand .control [0x4F80, 0, 2, 0x0107, 0, 0xCD87] = some (.nop .control [0x4F80, 0, 2, 0x0107, 0, 0xCD87])
      ∧ frameCommand .control [0x4F80, 0, 7, 0x0201, 5, 12, 3, 0, 0, 0, 0xC316]
          = some (.bind .control [0x4F80, 0, 7, 0x0201, 5, 12, 3, 0, 0, 0, 0xC316])
      ∧ frameCommand .control [0x4F80, 0, 2, 0x2202, 0, 0x8AE5]
          = some (.status .control [0x4F80, 0, 2, 0x2202, 0, 0x8AE5])
      ∧ frameCommand .control [0x4F80, 0, 3, 0x2303, 0, 0, 0x0E48]
          = some (.resetPartFull .control [0x4F80, 0, 3, 0x2303, 0, 0, 0x0E48])
      ∧ frameCommand .control [0x4F80, 0, 2, 0x0704, 0xFF, 0xADBE]
          = some (.reselectAll .control [0x4F80, 0, 2, 0x0704, 0xFF, 0xADBE]) := by
  decide +kernel

/-- R181: one frame for each of the four errors, at both ports: too short, a changed word, an invalid kind, a CYCLE frame on
the field link and a SAMPLE frame on the control link. -/
theorem test_receive_errors :
    receive .field [1, 2, 3] = .bad .length ∧ receive .control (List.replicate 65 0) = .bad .length
      ∧ receive .field [0x1FB0, 0x2860, 1, 0x65, 0x1DB8] = .bad .crc
      ∧ receive .control [0x4F80, 0, 2, 0x0108, 0, 0xCD87] = .bad .crc
      ∧ receive .field (frameWords 0 31 8 0 0 []) = .bad .header
      ∧ receive .control (frameWords 8 31 0 0 0 []) = .bad .header
      ∧ receive .field (cycleWords [1]) = .bad .stray ∧ receive .control (sampleWords 0 [1]) = .bad .stray := by
  decide +kernel

/-- The table gives no row any bits. -/
theorem test_no_table_bits : decodeTableWord 16 0 = none ∧ State.reset.withFetchWord 16 0 = State.reset := by
  exact ⟨rfl, rfl⟩

/-! ### WellFormed: a label that is not the words' row -/

/-- The words of a NOP frame under the label of every other frame row. -/
theorem smoke_label_is_not_nop :
    let ws := queuedFrame .nop 0 []
    ([.sample .control ws, .describe .control ws, .passUp .control ws, .passDown .control ws, .cycle .control ws,
        .bind .control ws, .unbind .control ws, .setContext .control ws, .hold .control ws, .resume .control ws,
        .reselect .control ws, .reselectAll .control ws, .contextRead .control ws, .countersRead .control ws,
        .countersReadPart .control ws, .mapWrite .control ws, .mapRead .control ws, .profileStage .control ws,
        .profileDiscard .control ws, .profileCommit .control ws, .profileRead .control ws, .setPart .control ws,
        .capture .control ws, .ackReports .control ws, .abort .control ws, .status .control ws,
        .resetPartFull .control ws, .resetPartContexts .control ws] : List Instr).all (fun i => !i.wf) = true := by
  decide +kernel

/-- NOP's own words under NOP's label are accepted, and a frame that the port discards under any; another row's words under
NOP's label, and the wrong row of RESELECT and of RESET-PART, are refused. -/
theorem smoke_nop :
    Instr.wf (.nop .control (queuedFrame .nop 0 [])) = true ∧ Instr.wf (.nop .control [1, 2, 3]) = true
      ∧ Instr.wf (.nop .control (immediateFrame .status [])) = false
      ∧ Instr.wf (.reselect .control (queuedFrame .reselect 255 [])) = false
      ∧ Instr.wf (.resetPartFull .control (immediateFrame .resetPart [1])) = false := by
  decide +kernel

/-! ### The machine -/

theorem witness_step_idles : State.reset.pending = [] := rfl

theorem test_step_takes_the_front :
    step { State.reset with pending := [.resetNLow, .emission] }
      = .next { State.reset with pending := [.emission], resetHeld := true } := by
  rfl

theorem witness_release :
    (10000 ≤ 10000 ∧ 9999 < 10000) ∧ (after .resetNLow linked).resetHeld = true
      ∧ ∀ ns, Instr.emission ≠ .powerOn ns := by
  exact ⟨by decide, rfl, fun _ => by simp⟩

theorem test_power_on :
    (after (.powerOn 10000) linked).controlLink.up = false
      ∧ (after (.powerOn 10000) linked).partLatch = [(1, { count := 1, detail := [1] })] := by
  decide +kernel

/-! ### Links -/

/-- A link gains lock, and its interval runs out. -/
def locking : State := after (.symbolLockGained .control) (after (.symbolLockGained .field) State.reset)

theorem witness_links :
    (State.reset.resetHeld = false ∧ (∀ p, (State.reset.link p).up = false))
      ∧ (linked.resetHeld = false ∧ ∀ p, (linked.link p).up = true)
      ∧ (locking.resetHeld = false ∧ locking.fieldLink.up = false ∧ locking.fieldLink.locking = true
        ∧ locking.controlLink.up = false ∧ locking.controlLink.locking = true)
      ∧ State.reset.fieldLink.locking = false := by
  refine ⟨⟨rfl, fun p => ?_⟩, ⟨rfl, fun p => ?_⟩, ⟨rfl, rfl, rfl, rfl, rfl⟩, rfl⟩ <;> cases p <;> rfl

theorem test_lock_lost : (after (.symbolLockLost .field) locking).fieldLink.locking = false := rfl

theorem test_links_come_up :
    (after .fieldLinkUp locking).fieldLink.up = true
      ∧ Table.get 4 (after .fieldLinkUp locking).partLatch = some { count := 1, detail := [] }
      ∧ (after .controlLinkUp locking).controlLink.up = true
      ∧ (after .controlLinkUp locking).partLatch = State.reset.partLatch := by
  decide +kernel

theorem witness_field_loss :
    ((stream activeContext).resetHeld = false ∧ (stream activeContext).fieldLink.up = true
        ∧ (stream activeContext).capture = none)
      ∧ ((capturing (capture12 .armed)).resetHeld = false ∧ (capturing (capture12 .armed)).fieldLink.up = true
        ∧ (capturing (capture12 .armed)).capture = some (capture12 .armed)) := by
  exact ⟨⟨rfl, rfl, rfl⟩, rfl, rfl, rfl⟩

/-- R24, R158, R173: the context is BOUND again, and a capture ends LINK_DOWN with the NOP behind it flushed. -/
theorem test_field_loss :
    ((after .fieldLinkLoss (stream activeContext)).context 3).state = .bound
      ∧ Table.get 3 (after .fieldLinkLoss (stream activeContext)).partLatch = some { count := 1, detail := [1] }
      ∧ bodies (after .fieldLinkLoss (capturing (capture12 .armed)))
          = [.completion 20 17 .linkDown 1 3 [0, 0, 0, 0, 0, 1, 0, 0, 0, 0], .completion 21 1 .flushed 0 255 []] := by
  decide +kernel

theorem witness_control_loss : committing.resetHeld = false ∧ committing.controlLink.up = true := ⟨rfl, rfl⟩

theorem test_control_loss :
    (after .controlLinkLoss committing).commandQueue = []
      ∧ Table.get 2 (after .controlLinkLoss committing).partLatch = some { count := 1, detail := [0, 2] }
      ∧ (after .controlLinkLoss committing).staging = committing.staging := by
  decide +kernel

/-- For each clause, a state: a DOWN part for the links, the transmitters, the timer and the marks; and for emission a DOWN
link, a load of 12, and no entry in any latch. -/
theorem witness_event_without_condition :
    (State.reset.resetHeld = false ∧ State.reset.fieldLink.up = false ∧ State.reset.controlLink.up = false
        ∧ State.reset.fieldTx = none ∧ State.reset.controlTx = none ∧ State.reset.retryTimer = none
        ∧ State.reset.marks = {})
      ∧ (let s := { linked with reservations := 12 };
        s.resetHeld = false ∧ 11 < s.reports.length + s.reservations)
      ∧ linked.resetHeld = false ∧ linked.partLatch = [] ∧ ∀ i : Fin 32, (linked.context i).latch = [] := by
  decide +kernel

/-! ### Frames at the ports -/

/-- The clauses of the port's checks at their boundaries: 3, 4, 64 and 65 words, a wrong CRC word, a length field of 1
too many and of 61, kinds 0 and 8 and each reserved field, and a combination that R182 does not list. -/
theorem witness_damaged :
    (Instr.frame? (.sample .field [1, 2, 3]) = some (.field, [1, 2, 3]) ∧ linked.resetHeld = false
        ∧ State.reset.resetHeld = false ∧ (State.reset.link .field).up = false ∧ (linked.link .field).up = true)
      ∧ ([1, 2, 3] : List Word).length < 4 ∧ 64 < (List.replicate 65 (0 : Word)).length
      ∧ [0x1FB0, 0x2860, 1, 0x65, 0x1DB8].getLast? ≠ some (crc [0x1FB0, 0x2860, 1, 0x65])
      ∧ (let ws : List Word := [0x1FB0, 0x2860, 2, 0x64, crc [0x1FB0, 0x2860, 2, 0x64]];
        ws.getLast? = some (crc ws.dropLast) ∧ 60 < (61 : Word).toNat % 64 ∧ ws.length ≠ (2 : Word).toNat % 64 + 4)
      ∧ ((0x0FB0 : Word).toNat / 4096 = 0 ∧ 7 < (0x8FB0 : Word).toNat / 4096 ∧ (0x1FB1 : Word).toNat % 4 ≠ 0
        ∧ (0x2861 : Word).toNat % 32 ≠ 0 ∧ (0x41 : Word).toNat / 64 ≠ 0)
      ∧ linked.fieldLink.up = true ∧ linked.controlLink.up = true ∧ (State.reset.link .control).up = false := by
  decide +kernel

/-- A SAMPLE frame with source 0, 30 or 31 is in no row of R182. -/
theorem witness_stray (u : FrameUse) (src : Nat) (h : src = 0 ∨ src = 30 ∨ src = 31) :
    ¬ AcceptedCombination .field 1 31 src u := by
  cases u <;> simp only [AcceptedCombination, not_and] <;> omega

theorem test_damaged :
    (after (.sample .field [1, 2, 3]) linked).part = { linked.part with fieldLength := 1 }
      ∧ (after (.startSymbolInFrame .control) linked).part = { linked.part with controlLength := 1 } := by
  decide +kernel

/-- The longest parameter list of a frame: 58 words make a payload of 60. The clauses of RESET-PART and of unknown codes. -/
theorem witness_command_words :
    (List.replicate 58 (0 : Word)).length ≤ 58 ∧ ([2] : List Word).head? ≠ some 0 ∧ ([2] : List Word).head? ≠ some 1
      ∧ (17 < (18 : Byte).toNat ∧ (31 : Byte).toNat < 32) ∧ 35 < (36 : Byte).toNat := by
  decide

/-- A PASS frame from node 9, and one to it. -/
def passUpWords : List Word := [0x7024, 0, 0, 0xCA3E]
def passDownWords : List Word := [0x7480, 0, 1, 0xABCD, 0xDBF3]

theorem witness_pass :
    HearsFrame linked .field passUpWords .passUp
        { src := 9, seq := 0, channel := 0, payload := [], words := passUpWords }
      ∧ HearsFrame linked .control passDownWords .passDown
        { src := 0, seq := 0, channel := 0, payload := [0xABCD], words := passDownWords } := by
  refine ⟨⟨?_, ?_, ?_⟩, ?_, ?_, ?_⟩ <;> decide +kernel

/-- At 7 frames the queue takes the frame, at 8 it drops it; an idle transmitter begins it at once. -/
theorem test_pass :
    (let s := { linked with controlTx := some (.pass []), upQueue := List.replicate 7 [] };
      (after (.passUp .field passUpWords) s).upQueue.length = 8)
      ∧ (let s := { linked with fieldTx := some (.pass []), downQueue := List.replicate 8 [] };
        (after (.passDown .control passDownWords) s).part.passDropped = 1
          ∧ (after (.passDown .control passDownWords) s).partLatch = [(7, { count := 1, detail := [0, 1] })])
      ∧ (after (.passDown .control passDownWords) linked).fieldTx = some (.pass passDownWords) := by
  decide +kernel

theorem witness_cycle :
    HearsFrame linked .control (cycleWords []) .cycle (cycleFrame []) ∧ ([] : List Word).length ≠ 1
      ∧ HearsFrame linked .control (cycleWords [0]) .cycle (cycleFrame [0])
      ∧ ({ linked with lastCycle := some 0 } : State).lastCycle = some 0 ∧ linked.lastCycle ≠ some 0
      ∧ ({ linked with lastCycle := some 0xFFFF } : State).lastCycle ≠ some 0 := by
  refine ⟨⟨?_, ?_, ?_⟩, ?_, ⟨?_, ?_, ?_⟩, ?_, ?_, ?_⟩ <;> decide +kernel

/-- R28: after 202, CYCLE 205 is a skip of expected 203; after 65535, CYCLE 0 is in order. -/
theorem test_cycle :
    (let s := { linked with lastCycle := some 202 };
      (after (.cycle .control (cycleWords [205])) s).partLatch = [(5, { count := 1, detail := [203, 205] })]
        ∧ (after (.cycle .control (cycleWords [205])) s).fieldTx = some (.cycleCopy 205))
      ∧ (let s := { linked with lastCycle := some 0xFFFF };
        (after (.cycle .control (cycleWords [0])) s).part.cycleSkips = 0
          ∧ (after (.cycle .control (cycleWords [0])) s).marks.commit = 1) := by
  decide +kernel

/-! ### Latches -/

theorem witness_latching :
    ([0xFFFF, 1] : List Word)[0]? = some 0xFFFF ∧ ([1, 1] : List Word)[0]? = some 1
      ∧ coalesce .addAll [0xFFFF, 1] [1, 1] = [0xFFFF, 2] := by
  decide

theorem test_latch_count_saturates :
    latchAdd 7 .addAll [1, 0] [(7, { count := 255, detail := [3, 4] })] = [(7, { count := 255, detail := [4, 4] })] := by
  decide

/-! ### Work at a cycle mark -/

/-- A context whose silence limit 3 is one mark away. -/
def quietContext : Context := { activeContext with silenceLimit := 3, silenceCount := 2 }

theorem witness_marks :
    (marked linked).resetHeld = false ∧ (marked linked).marks.silence = 0 + 1 ∧ (marked linked).marks.lifetime = 0 + 1
      ∧ (marked linked).marks.budget = 0 + 1 ∧ (marked linked).marks.commit = 0 + 1
      ∧ (marked linked).marks.capture = 0 + 1 := by
  decide

theorem test_silence :
    let c := (after .silenceSupervision (marked (stream quietContext))).context 3
    c.silenceCount = 3 ∧ c.silentReported = true ∧ c.latch = [(8, { count := 1, detail := [3, 12] })] := by
  decide +kernel

/-- A capture whose context runs out at this mark, and one whose context does not. -/
theorem witness_lifetime :
    (let c := { activeContext with remaining := 1 };
      (c.descriptor.isSome && c.lifetime ≠ 0 && c.state ≠ .stale) = true ∧ c.remaining.toNat ≤ 1)
      ∧ (capturing (capture12 .armed)).capture = some (capture12 .armed)
      ∧ 1 < ((capturing (capture12 .armed)).context 3).remaining.toNat ∧ (stream activeContext).capture = none := by
  decide +kernel

theorem test_lifetime :
    (let c := (after .lifetimeCountdown (marked (stream { activeContext with remaining := 1 }))).context 3;
      c.state = .stale ∧ c.remaining = 0 ∧ c.latch = [(4, { count := 1, detail := [3, 1] })])
      ∧ ((after .lifetimeCountdown (marked (stream { activeContext with remaining := 2 }))).context 3).remaining = 1 := by
  decide +kernel

theorem test_budget :
    ((after .budgetReload (marked (stream { activeContext with quota := 64 }))).context 3).budget = 64 := by
  decide +kernel

theorem witness_commit :
    (marked linked).commitPending = false ∧ (marked committing).commitPending = true
      ∧ (marked committing).commandQueue = headCommit :: [waitingNop 21]
      ∧ ((marked committing).staging.map Staged.target).Nodup := by
  decide +kernel

/-- The retirement takes profile 12 from the context, the generation moves on, and the NOP behind completes. -/
theorem test_commit :
    let t := after .commit (marked { committing with controlTx := some (.pass []) })
    t.generation = 1 ∧ t.profiles = [] ∧ (t.context 3).state = .unmapped
      ∧ bodies t = [.completion 10 14 .done 1 255 [1, 1, 1, 1, 0], .completion 21 1 .done 0 255 []] := by
  decide +kernel

/-- The five clauses: a retired profile, one that is kept, an UNMAPPED AUTO context, a BOUND AUTO context, and a FIXED
context without a profile. -/
theorem witness_repair :
    (activeContext.activeProfile = some 12 ∧ (Table.get 12 [((12 : BitVec 6), record12)]).isSome
        ∧ ∃ e ∈ ([{ target := 12, record := none }] : List Staged), e.target = 12 ∧ e.record = none)
      ∧ (¬ ∃ e ∈ ([] : List Staged), e.target = 12 ∧ e.record = none)
      ∧ (let c := { activeContext with state := .unmapped, activeProfile := none };
        c.activeProfile = none ∧ c.mode = .auto ∧ c.state = .unmapped)
      ∧ (boundContext.activeProfile = none ∧ boundContext.mode = .auto ∧ boundContext.state ≠ .unmapped)
      ∧ (let c := { boundContext with mode := .fixed 63 };
        c.activeProfile = none ∧ c.mode = .fixed 63) := by
  decide +kernel

/-- The four clauses: no capture, ARMED, COLLECTING below T, and COLLECTING at T with the count below N. -/
theorem witness_capture_mark :
    (marked linked).capture = none
      ∧ (marked (capturing (capture12 .armed))).capture = some (capture12 .armed)
      ∧ ((capture12 .collecting).stage = .collecting ∧ ¬ ((capture12 .collecting).cycles + 1 = 3 ∧ 0 < 2))
      ∧ (let k := { capture12 .collecting with cycles := 2 };
        k.stage = .collecting ∧ k.cycles + 1 = k.t ∧ k.count < k.n) := by
  decide

theorem test_capture_mark :
    (after .captureCycleMark (marked (capturing (capture12 .armed)))).capture = some (capture12 .collecting)
      ∧ (let s := marked (capturing { capture12 .collecting with cycles := 2 });
        bodies (after .captureCycleMark s)
            = [.completion 20 17 .timeout 2 3 [0, 0, 0, 0, 3, 1, 0, 0, 0, 0], .completion 21 1 .flushed 0 255 []]) := by
  decide +kernel

/-! ### SAMPLE frames -/

theorem witness_unbound :
    HearsFrame linked .field (sampleWords 0 [1]) .sample (sampleFrame 0 [1])
      ∧ linked.resolve (frameKey (sampleFrame 0 [1])) = none
      ∧ HearsFrame linked .field (describeWords []) .describe (describeFrame [])
      ∧ linked.resolve (frameKey (describeFrame [])) = none := by
  refine ⟨⟨?_, ?_, ?_⟩, ?_, ⟨?_, ?_, ?_⟩, ?_⟩ <;> decide +kernel

/-- Sequence 178 lies 128 after 50, which is 128 behind it. -/
theorem witness_old :
    HearsFrame (stream activeContext) .field (sampleWords 178 [1]) .sample (sampleFrame 178 [1])
      ∧ (stream activeContext).resolve (frameKey (sampleFrame 178 [1])) = some 3
      ∧ ((stream activeContext).context 3).tracker = .expect 50
      ∧ 128 ≤ ((sampleFrame 178 [1]).seq - 50).toNat := by
  refine ⟨⟨?_, ?_, ?_⟩, ?_, ?_, ?_⟩ <;> decide +kernel

theorem test_unbound :
    (after (.sample .field (sampleWords 0 [1])) linked).partLatch = [(6, { count := 1, detail := [0x0801, 1] })] := by
  decide +kernel

/-- A BOUND context accepts at RESYNC without a descriptor; an ACTIVE one accepts 177 with 127 missed, and lengths 0 and 17
do not fit SIGNED16, nor 1, 33 and 34 SIGNED24. -/
theorem witness_turned_aside :
    (HearsFrame (stream boundContext) .field (sampleWords 9 []) .sample (sampleFrame 9 [])
        ∧ (stream boundContext).resolve (frameKey (sampleFrame 9 [])) = some 3
        ∧ AcceptsAfter ((stream boundContext).context 3) 9 0
        ∧ (acceptedRecord 9 0 ((stream boundContext).context 3)).descriptor = none)
      ∧ (HearsFrame (stream activeContext) .field (sampleWords 177 (List.replicate 17 0)) .sample
          (sampleFrame 177 (List.replicate 17 0))
        ∧ (stream activeContext).resolve (frameKey (sampleFrame 177 (List.replicate 17 0))) = some 3
        ∧ AcceptsAfter ((stream activeContext).context 3) 177 127
        ∧ (acceptedRecord 177 127 ((stream activeContext).context 3)).descriptor = some d1
        ∧ 16 < (List.replicate 17 (0 : Word)).length)
      ∧ ((33 % 2 = 1 ∨ 33 < 2 ∨ 32 < 33) ∧ (0 < 2)) := by
  refine ⟨⟨⟨?_, ?_, ?_⟩, ?_, .inl ⟨?_, rfl⟩, ?_⟩, ⟨⟨?_, ?_, ?_⟩, ?_, .inr ⟨50, ?_, ?_, ?_⟩, ?_, ?_⟩, ?_⟩ <;>
    decide +kernel

theorem test_malformed :
    let c := (after (.sample .field (sampleWords 58 (List.replicate 17 0)))
      (stream { activeContext with tracker := .expect 58 })).context 3
    c.counters = { accepted := 1, malformed := 1 } ∧ c.latch = [(12, { count := 1, detail := [17, 3] })]
      ∧ c.tracker = .expect 59 := by
  decide +kernel

/-- The contexts of the clauses: held, UNMAPPED, STALE under either reason, and one that delivers with a full budget, with
none left, and with a full Measure Queue. -/
theorem witness_delivery :
    HearsFrame (stream activeContext) .field (sampleWords 50 [3000]) .sample (sampleFrame 50 [3000])
      ∧ (stream activeContext).resolve (frameKey (sampleFrame 50 [3000])) = some 3
      ∧ AcceptsAfter ((stream activeContext).context 3) 50 0
      ∧ ((stream activeContext).context 3).descriptor = some d1 ∧ AllowedLength d1.encoding 1
      ∧ AllowedLength d1.encoding 16 ∧ NotTapped (stream activeContext) 3
      ∧ ((stream activeContext).context 3).key = some key81
      ∧ ((capturing (capture12 .collecting)).context 3).key = some key81
      ∧ (activeContext.held = false ∧ activeContext.activeProfile = some 12
        ∧ Table.get 12 (stream activeContext).profiles = some record12 ∧ activeContext.state = .active) := by
  refine ⟨⟨?_, ?_, ?_⟩, ?_, .inr ⟨50, ?_, ?_, ?_⟩, ?_, ?_, ?_, fun k h => ?_, ?_, ?_, ?_⟩
  · decide +kernel
  · decide +kernel
  · decide +kernel
  · decide +kernel
  · decide +kernel
  · decide +kernel
  · decide +kernel
  · decide +kernel
  · decide +kernel
  · decide +kernel
  · have hn : (stream activeContext).capture = none := rfl
    rw [hn] at h; cases h
  · decide +kernel
  · decide +kernel
  · decide +kernel

theorem witness_delivery_clauses :
    (({ activeContext with held := true } : Context).held = true)
      ∧ (let c := { activeContext with state := .unmapped, activeProfile := none };
        c.held = false ∧ c.state = .unmapped)
      ∧ (let c := { activeContext with state := .stale };
        c.held = false ∧ c.state = .stale ∧ c.stalePolicy = .discard)
      ∧ (let c := { activeContext with state := .stale, stalePolicy := .forward };
        c.held = false ∧ c.activeProfile = some 12 ∧ c.state = .stale ∧ c.stalePolicy = .forward)
      ∧ (let c := { activeContext with quota := 1, budget := 0 };
        0 < c.quota ∧ c.budget = 0)
      ∧ ¬ (0 < activeContext.quota ∧ activeContext.budget = 0) ∧ 32 ≤ (List.replicate 32 (0 : Nat)).length := by
  decide +kernel

/-- Chapter 6's worked sequence, events 1 to 4: queued with NEWPROFILE, then GAP (2, 53), a duplicate, a budget drop. -/
theorem test_sample_measured :
    let c := { activeContext with quota := 2, budget := 2 }
    let t := after (.sample .field (sampleWords 50 [3000])) { stream c with controlTx := some (.pass []) }
    t.measureQueue
        = [{ channel := 1, seq := 12, context := 3, stale := false, gap := false, clamped := false, newProfile := true,
              unit := 3, profile := 12, epoch := 1, generation := 0, values := [662] }]
      ∧ (t.context 3).budget = 1 ∧ (t.context 3).outputSeq = 13 ∧ (t.context 3).newProfile = false := by
  decide +kernel

theorem test_sample_gap_and_budget :
    (let c := (after (.sample .field (sampleWords 53 [1])) (stream { activeContext with tracker := .expect 51 })).context 3;
      c.tracker = .expect 54 ∧ c.latch = [(7, { count := 1, detail := [2, 53] })])
      ∧ (let s := stream { activeContext with tracker := .expect 54, quota := 2, budget := 0 };
        ((after (.sample .field (sampleWords 54 [1])) s).context 3).latch = [(9, { count := 1, detail := [1, 2] })])
      ∧ (let s := stream { activeContext with tracker := .expect 54 };
        ((after (.sample .field (sampleWords 52 [1])) s).context 3).counters = { duplicates := 1 }) := by
  decide +kernel

/-- The guide's examples of conversion (chapter 5). -/
theorem test_conversion :
    record12.deliver 3000 = 662 ∧ record12.deliver 1000 = -1780 ∧ record12.deliver 2048 = -500
      ∧ record12.deliver 8388607 = 100000 ∧ record12.clampsAt 8388607 = true ∧ record12.clampsAt 1000 = false := by
  decide +kernel

theorem witness_conversion :
    Encoding.signed16 ≠ .signed24 ∧ record12.clampLow.toInt ≤ record12.clampHigh.toInt := by
  decide

/-! ### Captures -/

/-- A collecting capture with N 2: one sample leaves the count below N, two complete it; and the same for SPAN. -/
theorem witness_tapped :
    HearsFrame (capturing (capture12 .collecting)) .field (sampleWords 50 [2100]) .sample (sampleFrame 50 [2100])
      ∧ (capturing (capture12 .collecting)).resolve (frameKey (sampleFrame 50 [2100])) = some 3
      ∧ AcceptsAfter ((capturing (capture12 .collecting)).context 3) 50 0
      ∧ ((capturing (capture12 .collecting)).context 3).descriptor = some d1 ∧ AllowedLength d1.encoding 1
      ∧ (capturing (capture12 .collecting)).capture = some (capture12 .collecting)
      ∧ (capture12 .collecting).context = 3 ∧ (capture12 .collecting).stage = .collecting
      ∧ 0 + (rawSamples d1.encoding [2100]).length < (capture12 .collecting).n := by
  refine ⟨⟨?_, ?_, ?_⟩, ?_, .inr ⟨50, ?_, ?_, ?_⟩, ?_, ?_, ?_, ?_, ?_, ?_⟩ <;> decide +kernel

/-- What the statement of the last sample asks of the state, for the frame [2100, 2101] at sequence 50. -/
def LastSamplePremises (s : State) (k : Capture) : Prop :=
  HearsFrame s .field (sampleWords 50 [2100, 2101]) .sample (sampleFrame 50 [2100, 2101])
    ∧ s.resolve (frameKey (sampleFrame 50 [2100, 2101])) = some 3 ∧ AcceptsAfter (s.context 3) 50 0
    ∧ ((s.context 3).descriptor = some d1 ∧ AllowedLength d1.encoding 2 ∧ s.capture = some k ∧ k.context = 3
      ∧ k.stage = .collecting ∧ k.count < k.n ∧ s.commandQueue = headCapture :: [waitingNop 21]
      ∧ k.n ≤ k.count + (rawSamples d1.encoding [2100, 2101]).length)

/-- ZERO from the Profile Table with room, and with a full Staging Area. -/
theorem witness_last_sample_zero :
    (LastSamplePremises (capturing (capture12 .collecting)) (capture12 .collecting)
        ∧ Table.get 12 (capturing (capture12 .collecting)).profiles = some record12
        ∧ (capturing (capture12 .collecting)).staging.length < 8)
      ∧ (let s : State := { capturing (capture12 .collecting) with staging := eightStaged };
        LastSamplePremises s (capture12 .collecting)
          ∧ ¬ ((∃ e ∈ s.staging, e.target = (12 : BitVec 6)) ∨ s.staging.length < 8)) := by
  refine ⟨⟨⟨⟨?_, ?_, ?_⟩, ?_, .inr ⟨50, ?_, ?_, ?_⟩, ?_⟩, ?_, ?_⟩, ⟨⟨?_, ?_, ?_⟩, ?_, .inr ⟨50, ?_, ?_, ?_⟩, ?_⟩, ?_⟩ <;>
    decide +kernel

/-- SPAN with a gain from a staged source, and SPAN without one: the mean is 2101, references 0 and 10000. -/
theorem witness_last_sample_span :
    (let k : Capture := { capture12 .collecting with mode := .span, source := .staging };
      let s : State := { capturing k with staging := [{ target := 12, record := some record12 }] };
      LastSamplePremises s k ∧ stagedRecord 12 s.staging = some (some record12)
        ∧ spanGain record12 k.reference 2101 = some 9660)
      ∧ (let k : Capture := { capture12 .collecting with mode := .span, reference := 10000 };
        LastSamplePremises (capturing k) k ∧ spanGain record12 k.reference 2101 = none) := by
  refine ⟨⟨⟨⟨?_, ?_, ?_⟩, ?_, .inr ⟨50, ?_, ?_, ?_⟩, ?_⟩, ?_, ?_⟩, ⟨⟨?_, ?_, ?_⟩, ?_, .inr ⟨50, ?_, ?_, ?_⟩, ?_⟩, ?_⟩ <;>
    decide +kernel

/-- R153's own example: reference 10000 and mean 9500 give gain 1443; a mean equal to the input offset, or a gain past the
16 bits, gives none. -/
theorem test_span_gain :
    spanGain record12 10000 9500 = some 1443 ∧ spanGain record12 10000 2048 = none
      ∧ spanGain record12 0x7FFFFFFF 2049 = none := by
  decide +kernel

/-- The capture of two samples ends DONE at stage 4: the mean 2100.5 rounds to 2101, the record is staged, and the NOP behind
completes. -/
theorem test_capture_completes :
    let t := after (.sample .field (sampleWords 50 [2100, 2101]))
      { capturing (capture12 .collecting) with controlTx := some (.pass []) }
    t.staging = [{ target := 12, record := some { record12 with inputOffset := 2101 } }] ∧ t.capture = none
      ∧ bodies t
          = [.completion 20 17 .done 4 3 [0, 2101, 2, 0, 0, 1, 0, 0, 2101, 1], .completion 21 1 .done 0 255 []] := by
  decide +kernel

theorem witness_rounding :
    1 ≤ (capture12 .collecting).n ∧ (2048 : Int) - record12.inputOffset.toInt = 0
      ∧ (9500 : Int) - record12.inputOffset.toInt ≠ 0 := by
  decide +kernel

/-! ### DESCRIBE frames -/

/-- The four failing checks: a payload of 3 words, encoding 5, the reserved bit, and a zero word of 1. -/
theorem witness_invalid_describe :
    HearsFrame (stream boundContext) .field (describeWords [0x1155, 0, 0, 0]) .describe
        (describeFrame [0x1155, 0, 0, 0])
      ∧ (stream boundContext).resolve (frameKey (describeFrame [0x1155, 0, 0, 0])) = some 3
      ∧ ([0, 0, 0] : List Word).length ≠ 4 ∧ 4 < (0x1155 : Word).toNat / 16 % 16
      ∧ ((0x8040 : Word).toNat / 16 % 16 ≤ 4 ∧ 32768 ≤ (0x8040 : Word).toNat)
      ∧ ((0x7FCF : Word).toNat / 16 % 16 ≤ 12 ∧ (0x7F4F : Word).toNat < 32768 ∧ (1 : Word) ≠ 0) := by
  refine ⟨⟨?_, ?_, ?_⟩, ?_, ?_⟩ <;> decide +kernel

theorem test_invalid_describe :
    let c := (after (.describe .field (describeWords [0x1165, 0, 0, 0])) (stream boundContext)).context 3
    c.latch = [(3, { count := 1, detail := [2, 6] })] ∧ c.state = .bound ∧ c.counters = { descriptors := 1 } := by
  decide +kernel

/-- D1 at a BOUND context, at a context that holds it, at one that holds another, and with a capture on it. -/
theorem witness_valid_describe :
    HearsFrame (stream boundContext) .field (describeWords [0x1135, 0xA1, 0x33, 0]) .describe
        (describeFrame [0x1135, 0xA1, 0x33, 0])
      ∧ (stream boundContext).resolve (frameKey (describeFrame [0x1135, 0xA1, 0x33, 0])) = some 3
      ∧ (0x1135 : Word).toNat < 32768 ∧ Encoding.signed16.code.toNat = (0x1135 : Word).toNat / 16 % 16
      ∧ ((stream boundContext).context 3).descriptor = none ∧ ((stream activeContext).context 3).descriptor = some d1
      ∧ ({ d1 with range := 2 } : Descriptor) ≠ d1 ∧ NoCaptureOn (stream activeContext) 3
      ∧ ((capturing (capture12 .armed)).capture = some (capture12 .armed) ∧ (capture12 .armed).context = 3) := by
  refine ⟨⟨?_, ?_, ?_⟩, ?_, ?_, ?_, ?_, ?_, ?_, fun k h => ?_, ?_⟩
  · decide +kernel
  · decide +kernel
  · decide +kernel
  · decide +kernel
  · decide +kernel
  · decide +kernel
  · decide +kernel
  · decide +kernel
  · decide +kernel
  · have hn : (stream activeContext).capture = none := rfl
    rw [hn] at h; cases h
  · decide +kernel

/-- Chapter 3's worked sequence, event 1: D1 is the first descriptor and its run finds the map's profile. -/
theorem test_first_describe :
    let c := (after (.describe .field (describeWords [0x1135, 0xA1, 0x33, 0])) (stream boundContext)).context 3
    c.state = .active ∧ c.epoch = 1 ∧ c.remaining = 3 ∧ c.activeProfile = some 12 ∧ c.descriptor = some d1
      ∧ c.latch = [(1, { count := 1, detail := [0x1135, 0xA1, 0x33, 1] })] := by
  decide +kernel

/-! ### Selection -/

/-- A BOUND context, a FIXED one, an AUTO one whose entry names a valid profile, and one whose entry names an invalid
one. -/
theorem witness_selection :
    boundContext.descriptor = none ∧ activeContext.descriptor = some d1
      ∧ ({ activeContext with mode := .fixed 63 } : Context).mode = .fixed 63 ∧ activeContext.mode = .auto
      ∧ (Table.get (BitVec.ofNat 8 34) [((34 : BitVec 8), (12 : BitVec 6))] = some 12
        ∧ (Table.get 12 (stream activeContext).profiles).isSome)
      ∧ (Table.get 30 (stream activeContext).profiles).isSome = false := by
  decide

/-- Chapter 4's worked sequence, event 6: RETAIN keeps profile 7 and latches index 59, EMPTY, 7. -/
theorem test_retained :
    let d : Descriptor := { cls := 3, range := 5, encoding := .signed16, unit := 0, serial := 0 }
    let c : Context :=
      { activeContext with descriptor := some d, variant := 1, missPolicy := .retain, activeProfile := some 7 }
    let r := c.selectionRun [(52, 4), (53, 7)] [(7, record12)]
    r.activeProfile = some 7 ∧ r.state = .active ∧ r.latch = [(5, { count := 1, detail := [59, 0xFFFF, 7] })] := by
  decide +kernel

/-! ### The Command Unit -/

theorem witness_queue :
    takeHead headCommit { linked with staging := [{ target := 0, record := none }] }
        = .stays { linked with staging := [{ target := 0, record := none }], commitPending := true }
      ∧ takeHead (waitingNop 1) linked = .ends .done [] linked
      ∧ takeHead { waitingNop 1 with code := .unbind, target := 32 } linked = .ends .badParameter [] linked := by
  exact ⟨rfl, rfl, rfl⟩

/-- A frame of an unknown code, one of no payload, one of one word; a NOP at a full queue, at full reports, and behind
three; STATUS at full reports. -/
theorem witness_admission :
    Instr.frame? (.nop .control (payloadWords [0x0107, 0])) = some (.control, payloadWords [0x0107, 0])
      ∧ HearsFrame linked .control (payloadWords []) .command (payloadFrame [])
      ∧ HearsFrame linked .control (payloadWords [0x0107]) .command (payloadFrame [0x0107])
      ∧ HearsFrame linked .control (payloadWords [0x0107, 0]) .command (payloadFrame [0x0107, 0])
      ∧ HearsFrame linked .control (payloadWords [0x2207, 0]) .command (payloadFrame [0x2207, 0])
      ∧ payloadFits 1 [0x0107, 0] ∧ payloadFits 34 [0x2207, 0] ∧ ¬ payloadFits 18 [0x1207, 0]
      ∧ ((7 : Byte), (1 : Byte)) ∉ linked.recent := by
  refine ⟨rfl, ⟨?_, ?_, ?_⟩, ⟨?_, ?_, ?_⟩, ⟨?_, ?_, ?_⟩, ⟨?_, ?_, ?_⟩, .inl ?_, .inl ?_, ?_, ?_⟩
  on_goal 15 => rintro (h | h | h)
  on_goal 16 => exact absurd h.1 (by decide)
  on_goal 16 => exact absurd h.1 (by decide)
  all_goals first | (revert h; decide) | decide +kernel

theorem witness_admission_loads :
    (let s := { linked with commandQueue := List.replicate 4 (waitingNop 1) };
      (1 : Nat) < 32 ∧ 4 ≤ s.commandQueue.length)
      ∧ (let s := { linked with reports := List.replicate 16 (report 0 false) };
        s.commandQueue.length < 4 ∧ 16 ≤ s.reports.length + s.reservations)
      ∧ (let s := { linked with commandQueue := List.replicate 3 (waitingNop 1), reservations := 3,
                                reports := List.replicate 12 (report 0 false) };
        1 = QueuedCode.nop.toByte.toNat ∧ 0 < s.commandQueue.length ∧ s.commandQueue.length < 4
          ∧ s.reports.length + s.reservations < 16) := by
  decide

/-- R125: an unknown code is refused with its tag, its code and reason 1; behind a pending commit a NOP waits. -/
theorem test_admission :
    (after (.nop .control (payloadWords [0x1207, 0])) linked).partLatch = [(8, { count := 1, detail := [7, 18, 1] })]
      ∧ (after (.nop .control (queuedFrame .nop 0 [])) committing).commandQueue
          = [headCommit, waitingNop 21, waitingNop 7]
      ∧ (after (.nop .control (queuedFrame .nop 0 [])) committing).recent = [(7, 1)] := by
  decide +kernel

theorem witness_duplicate :
    HearsFrame { linked with recent := [(7, 1)] } .control (payloadWords [0x0107, 0]) .command
        (payloadFrame [0x0107, 0])
      ∧ (payloadFrame [0x0107, 0]).payload = 0x0107 :: 0 :: []
      ∧ payloadFits ((0x0107 : Word).toNat / 256) [0x0107, 0]
      ∧ (BitVec.ofNat 8 ((0x0107 : Word).toNat % 256), BitVec.ofNat 8 ((0x0107 : Word).toNat / 256))
          ∈ [((7 : Byte), (1 : Byte))] := by
  refine ⟨⟨?_, ?_, ?_⟩, rfl, .inl ?_, ?_⟩ <;> decide +kernel

theorem test_duplicate :
    let t := after (.nop .control (queuedFrame .nop 0 [])) { linked with recent := [(7, 1)] }
    t.part = { linked.part with controlGood := 1, commandsReceived := 1, commandDuplicates := 1 } ∧ t.reports = [] := by
  decide +kernel

/-! ### Commands taken in the event of their arrival -/

/-- Every queued command is taken at once at a fresh part, and still at a load of 15. -/
theorem witness_takes_now :
    (∀ (q : QueuedCode) (tag : Byte), TakesNow linked q tag)
      ∧ ∀ (q : QueuedCode) (tag : Byte),
          TakesNow { linked with reports := List.replicate 15 (report 0 true) } q tag := by
  exact ⟨fun q tag => ⟨⟨rfl, rfl, by simp [linked, State.reset]⟩, rfl, by decide⟩,
    fun q tag => ⟨⟨rfl, rfl, by simp [linked, State.reset]⟩, rfl, by decide⟩⟩

/-- Every immediate command is met. -/
theorem witness_hears_command : ∀ (i : ImmediateCode) (tag : Byte), HearsCommand linked i.toByte tag :=
  fun i tag => ⟨rfl, rfl, by simp [linked, State.reset]⟩

/-- The targets of the clauses: 31 is a context, 32 and 254 are none, and 255 is all of them. -/
theorem witness_targets :
    31 < (32 : Word).toNat ∧ (31 < (254 : Word).toNat ∧ (254 : Word) ≠ 255) ∧ targetContext (natWord 31) = some 31 := by
  decide

/-- The states of the context clauses: FREE and not, held and not, FIXED, with a key, and a key already in the map. -/
theorem witness_context_clauses :
    (linked.context 31).state = .free ∧ ((stream activeContext).context 3).state ≠ .free
      ∧ ((stream activeContext).context 3).key = some key81 ∧ ((stream activeContext).context 3).held = false
      ∧ ((stream { activeContext with held := true }).context 3).held = true
      ∧ ((stream { activeContext with mode := .fixed 0 }).context 3).mode ≠ .auto
      ∧ ((stream activeContext).context 3).mode = .auto
      ∧ Table.get (BitVec.ofNat 8 (8 * 8 + 1)) (stream activeContext).streamMap ≠ none
      ∧ Table.get (BitVec.ofNat 8 (8 * 29 + 7)) (stream activeContext).streamMap = none := by
  decide +kernel

theorem test_nop :
    bodies (after (.nop .control (queuedFrame .nop 0 [])) { linked with controlTx := some (.pass []) })
      = [.completion 7 1 .done 0 255 []] := by
  decide +kernel

/-- The ends of SET-PART's ranges, and the first values past them. -/
theorem test_set_part :
    (let t := after (.setPart .control (queuedFrame .setPart 255 [255, 15])) linked;
      t.retryInterval = 255 ∧ t.retryLimit = 15 ∧ bodies t = [.completion 7 16 .done 0 255 [255, 15]])
      ∧ bodies (after (.setPart .control (queuedFrame .setPart 255 [256, 15])) linked)
          = [.completion 7 16 .badParameter 0 255 []] := by
  decide +kernel

/-- Chapter 1's worked sequence, event 1. -/
theorem test_bind :
    let t := after (.bind .control (queuedFrame .bind 5 [12, 3, 0, 0, 0])) linked
    t.streamMap = [(99, 5)] ∧ (t.context 5).state = .bound ∧ (t.context 5).lifetime = 8
      ∧ bodies t = [.completion 7 2 .done 0 5 []] := by
  decide +kernel

theorem test_bind_key_in_use :
    let t := after (.bind .control (queuedFrame .bind 6 [8, 1, 0, 0, 0])) (stream activeContext)
    bodies t = [.completion 7 2 .keyInUse 0 6 []] ∧ (t.context 6).state = .free := by
  decide +kernel

theorem test_unbind :
    let t := after (.unbind .control (queuedFrame .unbind 3 [])) (stream activeContext)
    t.streamMap = [] ∧ t.context 3 = Context.free := by
  decide +kernel

/-- Chapter 1's worked sequence, event 2: lifetime 6 and quota 4 of a BOUND context, data (1 BOUND, 0xFFFF). -/
theorem test_set_context :
    let t := after (.setContext .control (queuedFrame .setContext 3 [5, 6, 0, 4, 0, 0, 0, 0, 0, 0])) (stream boundContext)
    (t.context 3).lifetime = 6 ∧ (t.context 3).quota = 4 ∧ (t.context 3).budget = 4
      ∧ bodies t = [.completion 7 4 .done 0 3 [1, 0xFFFF]] := by
  decide +kernel

theorem test_hold_and_resume :
    ((after (.hold .control (queuedFrame .hold 3 [])) (stream activeContext)).context 3).held = true
      ∧ bodies (after (.resume .control (queuedFrame .resume 3 [])) (stream activeContext))
          = [.completion 7 6 .wrongState 0 3 []] := by
  decide +kernel

theorem test_reselect :
    let s := stream { activeContext with state := .unmapped, activeProfile := none, newProfile := false }
    ((after (.reselect .control (queuedFrame .reselect 3 [])) s).context 3).activeProfile = some 12
      ∧ bodies (after (.reselectAll .control (queuedFrame .reselect 255 [])) s) = [.completion 7 7 .done 0 255 [1, 1, 0]] := by
  decide +kernel

theorem test_context_read :
    bodies (after (.contextRead .control (queuedFrame .contextRead 3 [])) (stream activeContext))
        = [.completion 7 8 .done 0 3
            [3, 0, 8, 1, 0, 0, 0xFFFF, 0, 0, 3, 3, 0, 0, 0, 12, 1, 50, 12, 0, 0, 0xFFF, 1, 2, 1, 3, 5, 0xA1, 0x33, 1]]
      ∧ bodies (after (.contextRead .control (queuedFrame .contextRead 31 [])) linked)
          = [.completion 7 8 .done 0 31 [0]] := by
  decide +kernel

theorem test_counters_read :
    let c := { activeContext with counters := { accepted := 0x10002 } }
    let t := after (.countersRead .control (queuedFrame .countersRead 3 [1])) (stream c)
    (t.context 3).counters = {} ∧ (bodies t).length = 1
      ∧ bodies t = [.completion 7 9 .done 0 3 ([1, 2] ++ List.replicate 20 0)] := by
  decide +kernel

/-- The command is itself the first good frame, the first command received and the first one admitted. -/
theorem test_counters_read_part :
    bodies (after (.countersReadPart .control (queuedFrame .countersRead 255 [0])) linked)
      = [.completion 7 9 .done 0 255
          (List.replicate 16 0 ++ [0, 1] ++ List.replicate 20 0 ++ [0, 1] ++ List.replicate 6 0 ++ [0, 1])] := by
  decide +kernel

/-- The ends of the map's ranges: entry 255 alone; past the end, too many, and none. -/
theorem witness_map :
    ([63] : List Word).length = (1 : Word).toNat ∧ (1 : Word).toNat ≤ 55 ∧ 256 < (255 : Word).toNat + (2 : Word).toNat
      ∧ ¬ 256 < (255 : Word).toNat + (1 : Word).toNat ∧ (List.replicate 32 (0 : Word)).length = (32 : Word).toNat
      ∧ 32 < (33 : Word).toNat := by
  decide

/-- Chapter 4's worked sequence, event 7: start 58, count 2, entries 12 and 30, reselect. -/
theorem test_map_write :
    let d : Descriptor := { cls := 3, range := 5, encoding := .signed16, unit := 0, serial := 0 }
    let s := stream { activeContext with descriptor := some d, state := .unmapped, activeProfile := none }
    let t := after (.mapWrite .control (queuedFrame .mapWrite 255 [58, 2, 12, 30, 1])) s
    t.selectionMap = [(34, 12), (58, 12), (59, 30)] ∧ (t.context 3).activeProfile = some 12
      ∧ bodies t = [.completion 7 10 .done 0 255 [2, 1, 1, 0]] := by
  decide +kernel

theorem test_map_read :
    bodies (after (.mapRead .control (queuedFrame .mapRead 255 [33, 3])) (stream activeContext))
        = [.completion 7 11 .done 0 255 [0xFFFF, 12, 0xFFFF]]
      ∧ bodies (after (.mapRead .control (queuedFrame .mapRead 255 [255, 2])) (stream activeContext))
          = [.completion 7 11 .badParameter 0 255 []] := by
  decide +kernel

/-- The Staging Area at 7 and at 8 records, a target that is staged and one that is not. -/
theorem witness_staging :
    (¬ ∃ e ∈ eightStaged, e.target = (63 : BitVec 6)) ∧ (∃ e ∈ eightStaged, e.target = (7 : BitVec 6))
      ∧ 8 ≤ eightStaged.length ∧ ¬ 8 ≤ (eightStaged.drop 1).length ∧ (eightStaged.map Staged.target).Nodup
      ∧ eightStaged = [] ++ { target := 0, record := none } :: eightStaged.drop 1
      ∧ (∀ e ∈ ([] : List Staged), e.target ≠ 0) ∧ (∀ e ∈ eightStaged, e.target ≠ (63 : BitVec 6)) := by
  decide

theorem test_profile_stage :
    let words : List Word := [12, 1, 0, 2048, 1250, 10, 0xFFFF, 0xFE0C, 0xFFFE, 0x7960, 1, 0x86A0, 3]
    (after (.profileStage .control (queuedFrame .profileStage 255 words)) linked).staging
        = [{ target := 12, record := some record12 }]
      ∧ bodies (after (.profileStage .control (queuedFrame .profileStage 255 words)) { linked with staging := eightStaged })
          = [.completion 7 12 .stagingFull 0 255 []] := by
  decide +kernel

theorem test_profile_discard :
    (after (.profileDiscard .control (queuedFrame .profileDiscard 255 [255])) { linked with staging := eightStaged }).staging
        = []
      ∧ bodies (after (.profileDiscard .control (queuedFrame .profileDiscard 255 [7])) { linked with staging := eightStaged })
          = [.completion 7 13 .done 0 255 [1, 7]] := by
  decide +kernel

theorem witness_profile_commit :
    (255 : Word) = 255 ∧ (254 : Word) ≠ 255 ∧ linked.staging = [] ∧ eightStaged ≠ [] := by
  decide

theorem test_profile_commit :
    bodies (after (.profileCommit .control (queuedFrame .profileCommit 255 [])) linked)
        = [.completion 7 14 .done 0 255 [0, 0, 0, 0, 0]]
      ∧ (after (.profileCommit .control (queuedFrame .profileCommit 255 [])) { linked with staging := eightStaged }).commitPending
          = true := by
  decide +kernel

theorem test_profile_read :
    bodies (after (.profileRead .control (queuedFrame .profileRead 255 [12, 0])) (stream activeContext))
        = [.completion 7 15 .done 0 255 [0, 1, 0, 2048, 1250, 10, 0xFFFF, 0xFE0C, 0xFFFE, 0x7960, 1, 0x86A0, 3, 0]]
      ∧ bodies (after (.profileRead .control (queuedFrame .profileRead 255 [12, 1])) (stream activeContext))
          = [.completion 7 15 .wrongState 0 255 []] := by
  decide +kernel

/-- The ends of CAPTURE's ranges, a context that is not ACTIVE, and a source that is invalid. -/
theorem witness_capture :
    ¬ (63 < (63 : Word).toNat ∨ 1 < (1 : Word).toNat ∨ (4096 : Word).toNat < 1 ∨ 4096 < (4096 : Word).toNat
        ∨ (255 : Word).toNat < 1 ∨ 255 < (255 : Word).toNat)
      ∧ 4096 < (4097 : Word).toNat ∧ ((stream boundContext).context 3).state ≠ .active
      ∧ ((stream activeContext).context 3).state = .active
      ∧ (Table.get 13 (stream activeContext).profiles).isSome = false
      ∧ (Table.get 12 (stream activeContext).profiles).isSome = true := by
  decide +kernel

theorem test_capture_starts :
    let t := after (.capture .control (queuedFrame .capture 3 [12, 0, 2, 3, 0, 0])) (stream activeContext)
    t.capture = some (capture12 .armed) ∧ t.executing = true ∧ t.reports = [] ∧ t.reservations = 1 := by
  decide +kernel

/-! ### Immediate commands -/

/-- Report 41 is SENT with report 40 before it; report 42 is not. -/
theorem witness_ack :
    HearsCommand reporting 32 7
      ∧ (heardCommand reporting).reports = [report 40 true] ++ report 41 true :: [report 42 false]
      ∧ (report 41 true).sent = true ∧ (∀ x ∈ [report 40 true], ¬ (x.sent = true ∧ x.seq = 41))
      ∧ ∀ x ∈ (heardCommand reporting).reports, ¬ (x.sent = true ∧ x.seq = 42) := by
  refine ⟨⟨?_, ?_, ?_⟩, ?_, ?_, ?_, ?_⟩ <;> decide +kernel

theorem test_ack :
    (let t := after (.ackReports .control (immediateFrame .ackReports [41])) { reporting with controlTx := some (.pass []) };
      t.reports = [report 42 false] ∧ t.retryTimer = none ∧ t.recent = [])
      ∧ (after (.ackReports .control (immediateFrame .ackReports [42])) { reporting with controlTx := some (.pass []) }).partLatch
          = [(9, { count := 1, detail := [42, 2] })] := by
  decide +kernel

theorem witness_abort :
    (HearsCommand linked 33 7 ∧ linked.commandQueue = [])
      ∧ (HearsCommand committing 33 7 ∧ committing.commandQueue ≠ [] ∧ committing.commitPending = true)
      ∧ (let s := capturing (capture12 .collecting);
        HearsCommand s 33 7 ∧ s.commandQueue ≠ [] ∧ s.commitPending = false
          ∧ s.capture = some (capture12 .collecting)) := by
  refine ⟨⟨⟨?_, ?_, ?_⟩, ?_⟩, ⟨⟨?_, ?_, ?_⟩, ?_, ?_⟩, ⟨?_, ?_, ?_⟩, ?_, ?_, ?_⟩ <;> decide +kernel

theorem test_abort :
    let t := after (.abort .control (immediateFrame .abort [])) { committing with controlTx := some (.pass []) }
    bodies t = [.completion 10 14 .aborted 0 255 [1, 0, 0, 0, 0], .completion 21 1 .flushed 0 255 []]
      ∧ t.staging = committing.staging ∧ t.commitPending = false := by
  decide +kernel

theorem witness_status :
    (HearsCommand linked 34 7
        ∧ ({ linked with reports := List.replicate 15 (report 0 false) } : State).reports.length + 0 < 16)
      ∧ 16 ≤ ({ linked with reports := List.replicate 16 (report 0 false) } : State).reports.length + 0 := by
  refine ⟨⟨⟨?_, ?_, ?_⟩, ?_⟩, ?_⟩ <;> decide +kernel

theorem test_status :
    bodies (after (.status .control (immediateFrame .status [])) { linked with controlTx := some (.pass []) })
      = [.completion 7 34 .done 0 255 [0x3208, 1, 1, 1, 0, 0, 0, 0, 0, 0, 0xFFFF, 0, 0, 0, 0]] := by
  decide +kernel

theorem test_reset_part_full :
    let t := after (.resetPartFull .control (immediateFrame .resetPart [0])) committing
    t.profiles = [] ∧ t.commandQueue = [] ∧ t.recent = [(7, 35)] ∧ t.controlLink.up = true
      ∧ t.partLatch = [(1, { count := 1, detail := [2] })] := by
  decide +kernel

theorem test_reset_part_contexts :
    let t := after (.resetPartContexts .control (immediateFrame .resetPart [1])) committing
    t.profiles = committing.profiles ∧ t.staging = committing.staging ∧ t.commandQueue = []
      ∧ t.context 3 = Context.free ∧ t.partLatch = [(1, { count := 1, detail := [3] })] := by
  decide +kernel

/-! ### The Report Unit and the transmitters -/

theorem witness_retry :
    (reporting.resetHeld = false ∧ reporting.retryTimer = some 20 ∧ reporting.retryCount + 1 ≤ reporting.retryLimit.toNat)
      ∧ (let s := { reporting with retryCount := 4 };
        s.retryTimer = some 20 ∧ s.retryLimit.toNat < s.retryCount + 1 ∧ s.retryLimit = 4 ∧ s.retryCount = 4)
      ∧ reporting.path = .running ∧ ({ reporting with path := .stalled } : State).path = .stalled := by
  decide

theorem test_retry :
    (let t := after .retryTimerExpiry { reporting with controlTx := some (.pass []), retryCount := 3 };
      t.retryCount = 4 ∧ t.reports.all (fun r => !r.sent) = true ∧ t.path = .running)
      ∧ (let t := after .retryTimerExpiry { reporting with retryCount := 4 };
        t.retryCount = 5 ∧ t.path = .stalled ∧ t.retryTimer = none) := by
  decide +kernel

/-- The first owner and the last: PART itself from the pointer at PART, and context 31 from the pointer at PART. -/
theorem witness_emission :
    (let s := { linked with partLatch := [(4, { count := 1, detail := [] })] };
      s.resetHeld = false ∧ s.controlLink.up = true ∧ s.reports.length + s.reservations ≤ 11 ∧ 0 < 33
        ∧ s.partLatch = (4, { count := 1, detail := [] }) :: [])
      ∧ ({ linked with reservations := 11 } : State).reports.length + 11 ≤ 11 ∧ linked.scan = .part
      ∧ linked.partLatch = [] ∧ 32 < 33 := by
  decide +kernel

theorem test_emission :
    let s := { linked with controlTx := some (.pass []), scan := .context 31,
                           contexts := State.reset.contexts.set 31
                             { Context.free with latch := [(2, { count := 3, detail := [9] }), (7, { count := 1, detail := [] })] } }
    let t := after .emission s
    bodies t = [.event (.context 31) 2 3 [9]] ∧ t.scan = .part
      ∧ (t.context 31).latch = [(7, { count := 1, detail := [] })] := by
  decide +kernel

/-- The clauses of the two choices: a busy transmitter, a DOWN link and RESET_N low; a copy, a PASS frame, neither; a report, a
PASS frame after four MEASURE frames, a MEASURE frame, none. -/
theorem witness_transmitters :
    (({ linked with fieldTx := some (.pass []), controlTx := some (.pass []) } : State).fieldTx ≠ none
        ∧ ({ linked with controlTx := some (.pass []) } : State).controlTx ≠ none ∧ State.reset.fieldLink.up = false
        ∧ State.reset.controlLink.up = false ∧ ({ linked with resetHeld := true } : State).resetHeld = true)
      ∧ (let s := { linked with cycleSlot := some 7 };
        s.resetHeld = false ∧ s.fieldTx = none ∧ s.fieldLink.up = true ∧ s.cycleSlot = some 7)
      ∧ ({ linked with downQueue := [[1]] } : State).downQueue = [1] :: [] ∧ linked.cycleSlot = none
      ∧ (reporting.resetHeld = false ∧ reporting.controlTx = none ∧ reporting.controlLink.up = true
        ∧ reporting.path = .running
        ∧ reporting.reports = [report 40 true, report 41 true] ++ report 42 false :: [] ∧ (report 42 false).sent = false
        ∧ ∀ x ∈ [report 40 true, report 41 true], x.sent = true)
      ∧ (∀ r ∈ linked.reports, r.sent = true) ∧ linked.upQueue = [] ∧ linked.measureQueue = []
      ∧ ({ linked with measuresSincePass := 4 } : State).measuresSincePass = 4 ∧ linked.measuresSincePass ≠ 4 := by
  decide +kernel

/-- A MEASURE frame to send. -/
def measure0 : MeasureFrame :=
  { channel := 0, seq := 0, context := 0, stale := false, gap := false, clamped := false, newProfile := false, unit := 0,
    profile := 0, epoch := 0, generation := 0, values := [] }

/-- Chapter 10's worked sequence, after M4: at 4 the PASS frame goes first, and the count starts again. -/
theorem test_arbiter :
    let s := { linked with controlTx := some (.pass []), measureQueue := [measure0], upQueue := [[1]], measuresSincePass := 4 }
    let t := after (.transmissionEnd .control) s
    t.controlTx = some (.pass [1]) ∧ t.measuresSincePass = 0
      ∧ (after (.transmissionEnd .control) { s with measuresSincePass := 3 }).measuresSincePass = 4 := by
  decide +kernel

theorem test_field_transmitter :
    (after (.transmissionEnd .field) { linked with fieldTx := some (.pass []), cycleSlot := some 7 }).fieldTx
      = some (.cycleCopy 7) := by
  decide +kernel

/-- The longest frames the part builds: 16 values, 48 data words and 4 detail words. -/
theorem witness_built_frames :
    (List.replicate 16 (0 : BitVec 32)).length ≤ 16 ∧ (List.replicate 48 (0 : Word)).length ≤ 48
      ∧ (List.replicate 4 (0 : Word)).length ≤ 4 := by
  decide

/-- The copy of CYCLE 200 goes to address 30 from address 31: kind 3, and sequence 200. -/
theorem test_cycle_copy : (cycleCopyWords 200).take 4 = [0x3F7C, 0xC800, 1, 200] := by decide +kernel

/-! ### The laws -/

theorem witness_laws :
    TablesInOrder State.reset ∧ StoresWithinBounds State.reset ∧ NothingListedTwice State.reset
      ∧ BudgetsWithinQuotas State.reset ∧ DownLinksSilent State.reset := by
  refine ⟨?_, ?_, ?_, ?_, ?_⟩
  · unfold TablesInOrder; decide +kernel
  · unfold StoresWithinBounds; decide
  · unfold NothingListedTwice; decide
  · unfold BudgetsWithinQuotas; decide +kernel
  · unfold DownLinksSilent; decide

theorem witness_stepping :
    step State.reset = .next State.reset
      ∧ step { State.reset with pending := [.resetNLow] } = .next { State.reset with pending := [], resetHeld := true } := by
  exact ⟨rfl, rfl⟩

end Sys2Proof.Tests
end

section
/-! SUPPORT. A COMMAND frame from its words to the end of its command: a built frame is received as it was built (R181,
R182, R194), a queued command of the right length that meets an empty queue is taken at the head (R123, R128), and what
ends there ends in the event of its arrival (R130, R131). -/

namespace Sys2Proof.Machine

open Sys2Proof.Safety

/-! ### Built frames at a port -/

/-- Every accepted combination has a known kind (R182). -/
theorem kind_known_of_acceptedUse {p : Port} {kind : BitVec 4} {dst src : BitVec 5} {u : FrameUse}
    (h : acceptedUse p kind dst src = some u) : 1 ≤ kind.toNat ∧ kind.toNat ≤ 7 := by
  have hc := (acceptedUse_iff p kind dst src u).1 h
  cases u <;> simp only [AcceptedCombination] at hc <;> omega

/-- A header a port accepts, the payload of its length and their CRC pass the five checks, and are read as they are. -/
theorem receive_header_payload_crc {p : Port} {h : Header} {payload : List Word} {u : FrameUse}
    (hlen : payload.length ≤ 60) (hfield : h.length.toNat = payload.length)
    (hu : acceptedUse p h.kind h.dst h.src = some u) :
    receive p (h.words ++ payload ++ [crc (h.words ++ payload)])
      = .good u
          { src := h.src, seq := h.seq, channel := h.channel, payload,
            words := h.words ++ payload ++ [crc (h.words ++ payload)] } := by
  obtain ⟨hlow, hhigh⟩ := kind_known_of_acceptedUse hu
  have hzero : h.kind ≠ 0#4 := fun hk => by simp [hk] at hlow
  have hcount : (h.words ++ payload ++ [crc (h.words ++ payload)]).length = payload.length + 4 := by
    simp [Header.words]
  unfold receive
  rw [hcount, if_neg (by simp; omega), if_neg (by simp)]
  simp only [Header.words, List.cons_append, List.nil_append, Header.read_words, reservedClear_words, hfield]
  rw [if_neg (by simp; omega), if_neg (by simp [hzero, hhigh])]
  simp [hu]

/-- A frame the part's layout builds, with a payload of at most 60 words, is received with its fields as they were given
wherever its header is accepted. -/
theorem receive_frameWords {p : Port} {kind : BitVec 4} {dst src : BitVec 5} {u : FrameUse} (seq : Byte)
    (channel : BitVec 3) {payload : List Word} (hlen : payload.length ≤ 60)
    (hu : acceptedUse p kind dst src = some u) :
    receive p (frameWords kind dst src seq channel payload)
      = .good u { src, seq, channel, payload, words := frameWords kind dst src seq channel payload } :=
  receive_header_payload_crc (h := { kind, dst, src, seq, channel, length := BitVec.ofNat 6 payload.length }) hlen
    (by simp; omega) hu

/-- A COMMAND frame as a controller sends it is a good frame at the control port. -/
theorem receive_commandWords (seq : Byte) (channel : BitVec 3) (code tag : Byte) (target : Word)
    {params : List Word} (hlen : params.length ≤ 58) :
    receive .control (commandWords seq channel code tag target params)
      = .good .command
          { src := 0, seq, channel, payload := (code ++ tag) :: target :: params,
            words := commandWords seq channel code tag target params } :=
  receive_frameWords seq channel (by simp; omega) (by decide)

/-! ### The arrival of a COMMAND frame -/

/-- A COMMAND frame that is heard is judged for admission, and the arbiter chooses (R121, R123). -/
theorem exec_of_hearsCommand {r : Instr} {s : State} {code tag : Byte} (hs : HearsCommand s code tag) (seq : Byte)
    (channel : BitVec 3) (target : Word) {params : List Word} (hlen : params.length ≤ 58)
    (hr : r.frame? = some (.control, commandWords seq channel code tag target params)) :
    exec r s = .next (arbitrate (admission ((code ++ tag) :: target :: params) s.path (heardCommand s))) := by
  obtain ⟨hreleased, hup, -⟩ := hs
  rw [exec_of_frame hr,
    frameArrives_of_hears (p := .control) ⟨hreleased, hup, receive_commandWords seq channel code tag target hlen⟩,
    handOn_command]

/-- A queued command of the right length that meets an empty queue and room for its report is taken at the head in the
event of its arrival (R123, R128). -/
theorem admission_of_takesNow {s : State} {q : QueuedCode} {tag : Byte} (hs : TakesNow s q tag) (target : Word)
    (params : List Word) (pathBefore : ReportPath)
    (hfits : queuedLength q ((q.toByte ++ tag) :: target :: params) = some (params.length + 2)) :
    admission ((q.toByte ++ tag) :: target :: params) pathBefore (heardCommand s)
      = runQueue [{ tag, code := q, target, params }] (admitted q tag s) := by
  obtain ⟨⟨-, -, hnew⟩, hempty, hroom⟩ := hs
  have hload : ¬ 16 ≤ (heardCommand s).reportLoad := by rw [heardCommand_reportLoad]; omega
  simp only [admission, codeOf_append, tagOf_append, CommandCode.ofByte_queued]
  rw [if_neg (by simp [commandFits, hfits]), if_neg (by simpa using hnew), if_neg (by simp [hempty]), if_neg hload]
  simp only [enterQueue, admitted_eq]
  rw [if_pos (by simp [hempty])]

/-! ### Commands that end at the head -/

/-- A command that ends at the head with none behind it leaves its report and an empty queue, whatever its outcome. -/
theorem runQueue_single_of_ends {c : Command} {s s' : State} {o : CommandOutcome} {data : List Word}
    (h : takeHead c s = .ends o data s') : runQueue [c] s = completed c o data s' := by
  simp only [runQueue, h, flush, List.foldl_nil, ite_self]
  rfl

/-- What a command does at the head, both where it stands and in the state that has admitted it, is what it does in the
event of its arrival. -/
theorem endsAtHead_of_takeHead {row : Port → List Word → Instr} {q : QueuedCode} {target : Word} {params : List Word}
    {s : State} {o : CommandOutcome} {data : List Word} {effect : State → State}
    (hrow : ∀ ws, (row .control ws).frame? = some (.control, ws)) (hlen : params.length ≤ 58)
    (hfits : ∀ w, queuedLength q (w :: target :: params) = some (params.length + 2))
    (hhead : ∀ tag : Byte, takeHead { tag, code := q, target, params } s = .ends o data (effect s))
    (hadmitted : ∀ tag : Byte, takeHead { tag, code := q, target, params } (admitted q tag s)
      = .ends o data (effect (admitted q tag s))) :
    EndsAtHead row q target params s o data effect := by
  refine ⟨hhead, fun tag seq channel hs => ?_⟩
  rw [exec_of_hearsCommand hs.1 seq channel target hlen (hrow _),
    admission_of_takesNow hs target params s.path (hfits _), runQueue_single_of_ends (hadmitted tag)]

end Sys2Proof.Machine
end

section
/-! SUPPORT. CONTEXT-READ (R22): its two results at the head, and the words of the record. -/

namespace Sys2Proof.Machine

open Sys2Proof.Safety

/-- CONTEXT-READ of no context fails its check (R15, R22). -/
theorem takeHead_contextRead_of_gt {target : Word} (h : 31 < target.toNat) (tag : Byte) (params : List Word)
    (s : State) : takeHead { tag, code := .contextRead, target, params } s = .ends .badParameter [] s := by
  simp only [takeHead, takeContextRead, targetContext_of_gt h, failHead]

/-- CONTEXT-READ of a context gives the words of its record as it stands, and changes nothing (R22). -/
theorem takeHead_contextRead (i : Fin 32) (tag : Byte) (params : List Word) (s : State) :
    takeHead { tag, code := .contextRead, target := natWord i, params } s
      = .ends .done (contextWords (s.context i)) s := by
  simp only [takeHead, takeContextRead, targetContext_natWord]

/-- CONTEXT-READ of a context at the head and on arrival: admission leaves the record that is read. -/
theorem endsAtHead_contextRead {i : Fin 32} {s : State} {data : List Word} (h : contextWords (s.context i) = data) :
    EndsAtHead .contextRead .contextRead (natWord i) [] s .done data id := by
  subst h
  exact endsAtHead_of_takeHead (fun _ => rfl) (by simp) (fun _ => rfl) (fun tag => takeHead_contextRead i tag [] s)
    fun tag => by rw [takeHead_contextRead, admitted_context, id]

/-- A FREE context reads as one word (R22). -/
theorem contextWords_of_free {c : Context} (h : c.state = .free) : contextWords c = [0] := by
  simp only [contextWords, h, if_true]

/-- The code of an encoding in a data word (R39). -/
theorem Encoding.code_setWidth (e : Encoding) :
    e.code.setWidth 16
      = match e with | .unsigned12 => 0 | .signed12 => 1 | .unsigned16 => 2 | .signed16 => 3 | .signed24 => (4 : Word) := by
  cases e <;> rfl

/-- Settles O39: the command ends at the head with the words of the record, and those words are the table of R22, with
the descriptor's fields or their zeros. -/
theorem contextReadReturnsTheRecord : Obligations.ContextReadReturnsTheRecord := by
  intro s
  refine ⟨fun target h => ?_, fun i => ⟨fun hfree => ?_, fun key hbound hkey => ?_⟩⟩
  · exact endsAtHead_of_takeHead (fun _ => rfl) (by simp) (fun _ => rfl)
      (fun tag => takeHead_contextRead_of_gt h tag [] s) fun tag => takeHead_contextRead_of_gt h tag [] _
  · exact endsAtHead_contextRead (contextWords_of_free hfree)
  · apply endsAtHead_contextRead
    unfold contextWords
    rw [if_neg hbound, hkey]
    cases (s.context i).descriptor with
    | none => rfl
    | some d =>
      simp only [Encoding.code_setWidth, wordPair_eq]
      rfl

end Sys2Proof.Machine
end

section
/-! SUPPORT. Samples (R54, R77, R78): the raw integer of each encoding as a number of its words, the samples of a payload
one after the other, and the conversion of a raw integer as a floor and a clamp. -/

namespace Sys2Proof.Machine

/-! ### Raw integers (R54) -/

/-- The low 12 bits of a word. -/
theorem toNat_extractLow12 (w : Word) : (w.extractLsb' 0 12).toNat = w.toNat % 4096 := by
  rw [BitVec.extractLsb'_toNat, Nat.shiftRight_zero]

/-- A SIGNED24 sample before its sign: the low 8 bits of the high word above the low word. -/
theorem toNat_pair24 (hi lo : Word) :
    (hi.extractLsb' 0 8 ++ lo).toNat = hi.toNat % 256 * 65536 + lo.toNat := by
  rw [BitVec.toNat_append, ← Nat.shiftLeft_add_eq_or_of_lt lo.isLt, Nat.shiftLeft_eq, BitVec.extractLsb'_toNat,
    Nat.shiftRight_zero]

theorem rawOfWord_unsigned12 (w : Word) : rawOfWord .unsigned12 w = w.toNat % 4096 := by
  simp only [rawOfWord, toNat_extractLow12, Int.natCast_emod, Nat.cast_ofNat]

theorem rawOfWord_signed12 (w : Word) :
    rawOfWord .signed12 w
      = if w.toNat % 4096 < 2048 then (w.toNat % 4096 : Int) else w.toNat % 4096 - 4096 := by
  simp only [rawOfWord, BitVec.toInt_eq_toNat_cond, toNat_extractLow12]
  split <;> split <;> omega

theorem rawOfWord_signed16 (w : Word) :
    rawOfWord .signed16 w = if w.toNat < 32768 then (w.toNat : Int) else w.toNat - 65536 := by
  simp only [rawOfWord, BitVec.toInt_eq_toNat_cond]
  split <;> split <;> omega

theorem rawOfPair_eq (hi lo : Word) :
    let n : Nat := hi.toNat % 256 * 65536 + lo.toNat
    rawOfPair hi lo = if n < 8388608 then (n : Int) else n - 16777216 := by
  simp only [rawOfPair, BitVec.toInt_eq_toNat_cond, toNat_pair24]
  split <;> split <;> omega

/-! ### The samples of a payload (R54) -/

theorem rawSamples_nil (e : Encoding) : rawSamples e [] = [] := by
  cases e <;> rfl

/-- A one-word encoding reads one sample from each word. -/
theorem rawSamples_cons {e : Encoding} (h : e ≠ .signed24) (w : Word) (rest : List Word) :
    rawSamples e (w :: rest) = rawOfWord e w :: rawSamples e rest := by
  cases e with
  | signed24 => exact absurd rfl h
  | unsigned12 | signed12 | unsigned16 | signed16 => rfl

/-! ### The conversion (R77, R78) -/

/-- R77, steps 1 to 3: the quotient before the output offset is the floor. -/
theorem Profile.unclamped_floor (p : Profile) (x : Int) :
    ∃ u : Int,
      u * 2 ^ p.shift.toNat ≤ (x - p.inputOffset.toInt) * p.gain.toInt
        ∧ (x - p.inputOffset.toInt) * p.gain.toInt < (u + 1) * 2 ^ p.shift.toNat
        ∧ p.unclamped x = u + p.outputOffset.toInt := by
  have hpos : (0 : Int) < 2 ^ p.shift.toNat := by positivity
  exact ⟨_, Int.ediv_mul_le _ hpos.ne', Int.lt_ediv_add_one_mul_self _ hpos, rfl⟩

/-- R78: a sample clamps where its unclamped value is below the one limit or above the other. -/
theorem Profile.clampsAt_iff (p : Profile) (x : Int) :
    p.clampsAt x = true ↔ p.unclamped x < p.clampLow.toInt ∨ p.clampHigh.toInt < p.unclamped x := by
  simp only [Profile.clampsAt, Bool.or_eq_true, decide_eq_true_eq]

/-- R77, step 4: the delivered word is the unclamped value held between the limits; between them it fits 32 bits. -/
theorem Profile.toInt_deliver {p : Profile} (h : p.clampLow.toInt ≤ p.clampHigh.toInt) (x : Int) :
    (p.deliver x).toInt = max p.clampLow.toInt (min p.clampHigh.toInt (p.unclamped x)) := by
  have hlow := p.clampLow.le_toInt
  have hhigh := p.clampHigh.toInt_lt
  simp only [Profile.deliver]
  split
  case isTrue hbelow => omega
  case isFalse hlo =>
    split
    case isTrue habove => omega
    case isFalse hhi => rw [BitVec.toInt_ofInt_eq_self (by decide) (by omega) (by omega)]; omega

/-- Settles O24: the raw integers one encoding at a time, the payload one sample at a time, and the conversion as the
floor and the clamp, which leaves exactly the values between the limits as they are. -/
theorem samplesAreDecodedAndConverted : Obligations.SamplesAreDecodedAndConverted := by
  refine ⟨⟨fun w => ?words, rawOfPair_eq, fun e => ⟨by cases e <;> rfl, rawSamples_nil e⟩, fun _ _ _ => rfl,
    fun _ w rest h => rawSamples_cons h w rest, by decide⟩, fun p x hlimits => ?conversion⟩
  case words => exact ⟨rawOfWord_unsigned12 w, rawOfWord_signed12 w, rfl, rawOfWord_signed16 w⟩
  case conversion =>
    obtain ⟨u, hle, hlt, hu⟩ := p.unclamped_floor x
    have hdeliver := Profile.toInt_deliver hlimits x
    have hclamps := p.clampsAt_iff x
    rw [hu] at hdeliver hclamps
    refine ⟨u, hle, hlt, hu, hdeliver, ?_⟩
    rw [hclamps, hdeliver]
    omega

end Sys2Proof.Machine
end

section
/-! SUPPORT. RESELECT (R72, R73): its results at the head for no context, for one context and for all, and the
misses of the runs as a reading of the Selection Map. -/

namespace Sys2Proof.Machine

open Sys2Proof.Safety

/-! ### RESELECT of one context -/

/-- RESELECT of neither a context nor all fails its check (R15, R72). -/
theorem takeHead_reselect_of_gt {target : Word} (h : 31 < target.toNat) (hall : target ≠ 255) (tag : Byte)
    (params : List Word) (s : State) :
    takeHead { tag, code := .reselect, target, params } s = .ends .badParameter [] s := by
  simp only [takeHead, takeReselect, targetContext_of_gt h, if_neg hall, failHead]

/-- RESELECT of a context that is FREE or FIXED fails its check (R72). -/
theorem takeHead_reselect_of_refused {i : Fin 32} {s : State}
    (h : (s.context i).state = .free ∨ (s.context i).mode ≠ .auto) (tag : Byte) (params : List Word) :
    takeHead { tag, code := .reselect, target := natWord i, params } s = .ends .wrongState [] s := by
  simp only [takeHead, takeReselect, targetContext_natWord, reselectOne]
  rw [if_pos (by simpa using h), failHead]

/-- RESELECT of any other context makes its run, and gives the state and the active profile it leaves (R72). -/
theorem takeHead_reselect_of_auto {i : Fin 32} {s : State} {c : Context}
    (h : ¬ ((s.context i).state = .free ∨ (s.context i).mode ≠ .auto))
    (hrun : (s.context i).selectionRun s.selectionMap s.profiles = c) (tag : Byte) (params : List Word) :
    takeHead { tag, code := .reselect, target := natWord i, params } s
      = .ends .done (stateWords c) (s.setContext i c) := by
  simp only [takeHead, takeReselect, targetContext_natWord, reselectOne]
  rw [if_neg (by simpa using h), hrun]

/-! ### RESELECT of all contexts -/

/-- RESELECT with target 255 makes the runs of the AUTO contexts that hold a descriptor, and has no check (R73). -/
theorem takeHead_reselect_all (tag : Byte) (params : List Word) (s : State) :
    takeHead { tag, code := .reselect, target := 255, params } s
      = .ends .done (runCounts Context.autoWithDescriptor s) (runContexts Context.autoWithDescriptor s) :=
  rfl

/-- The counts and the effect of RESELECT of all read only the records, the Selection Map and the Profile Table, which
admission leaves (R73, R128). -/
theorem takeHead_reselect_all_admitted (q : QueuedCode) (tag : Byte) (params : List Word) (s : State) :
    takeHead { tag, code := .reselect, target := 255, params } (admitted q tag s)
      = .ends .done (runCounts Context.autoWithDescriptor s)
          { admitted q tag s with contexts := (runContexts Context.autoWithDescriptor s).contexts } := by
  rw [takeHead_reselect_all]
  simp only [runCounts_eq, runContexts, State.mapContexts, admitted_context, admitted_selectionMap,
    admitted_profiles]

/-- A run that RESELECT of all makes misses where the Selection Map holds no valid profile for its key index (R61,
R73). -/
theorem autoWithDescriptor_and_runMisses (c : Context) (map : Table 8 (BitVec 6)) (profiles : Table 6 Profile) :
    (c.autoWithDescriptor && c.runMisses map profiles)
      = (c.autoWithDescriptor
          && !(c.descriptor.any fun d =>
            (Table.get (keyIndex d c.variant) map).any (validProfile profiles))) := by
  by_cases hauto : c.mode = .auto
  · cases hd : c.descriptor with
    | none => simp [Context.autoWithDescriptor, hd]
    | some d => rw [runMisses_of_auto hauto hd, Option.any_some]
  · simp [Context.autoWithDescriptor, hauto]

/-! ### The obligation -/

/-- Settles O38: one context passes the check and is run, or fails it; with 255 the counts and the records are those of
the AUTO contexts that hold a descriptor. Admission leaves all that a run reads. -/
theorem reselectRunsAutoContexts : Obligations.ReselectRunsAutoContexts := by
  intro s
  refine ⟨fun target hgt hall => ?neither, fun i => ?one, ?all⟩
  case neither =>
    exact endsAtHead_of_takeHead (fun _ => rfl) (by simp) (fun _ => rfl)
      (fun tag => takeHead_reselect_of_gt hgt hall tag [] s) fun tag => takeHead_reselect_of_gt hgt hall tag [] _
  case one =>
    intro ends
    split
    case isTrue hrefused =>
      exact endsAtHead_of_takeHead (fun _ => rfl) (by simp) (fun _ => rfl)
        (fun tag => takeHead_reselect_of_refused hrefused tag [])
        fun tag => takeHead_reselect_of_refused (by rwa [admitted_context]) tag []
    case isFalse hauto =>
      exact endsAtHead_of_takeHead (fun _ => rfl) (by simp) (fun _ => rfl)
        (fun tag => takeHead_reselect_of_auto hauto rfl tag [])
        fun tag => takeHead_reselect_of_auto (by rwa [admitted_context])
          (by rw [admitted_context, admitted_selectionMap, admitted_profiles]) tag []
  case all =>
    intro runs hits
    have hcounts := runCounts_eq Context.autoWithDescriptor s
    simp only [autoWithDescriptor_and_runMisses] at hcounts
    refine endsAtHead_of_takeHead (fun _ => rfl) (by simp) (fun _ => rfl) (fun tag => ?_) fun tag => ?_
    · rw [takeHead_reselect_all, hcounts]; rfl
    · rw [takeHead_reselect_all_admitted, hcounts]; rfl

end Sys2Proof.Machine
end

section
/-! SUPPORT. PROFILE-STAGE and PROFILE-DISCARD (R80 to R83): the Staging Area after a target is written or removed, and
the results of the two commands at the head. -/

namespace Sys2Proof.Machine

open Sys2Proof.Safety

/-! ### The Staging Area with a target written or removed (R80) -/

/-- A target stands in the Staging Area, as the model's search finds it. -/
theorem any_target_iff (p : BitVec 6) (l : List Staged) :
    (l.any fun e => e.target = p) = true ↔ ∃ e ∈ l, e.target = p := by
  simp only [List.any_eq_true, decide_eq_true_eq]

/-- A staged target always has a place, and a new one has while fewer than 8 are staged (R81). -/
theorem stagingRoom_iff (p : BitVec 6) (l : List Staged) :
    stagingRoom p l = true ↔ (∃ e ∈ l, e.target = p) ∨ l.length < 8 := by
  rw [stagingRoom, Bool.or_eq_true, any_target_iff, decide_eq_true_eq]

/-- A staged target is replaced in its place (R80). -/
theorem stageRecord_of_staged {e : Staged} {l : List Staged} (h : ∃ x ∈ l, x.target = e.target) :
    stageRecord e l = l.map fun x => if x.target = e.target then e else x :=
  if_pos ((any_target_iff e.target l).2 h)

/-- A new target is put behind the others (R80). -/
theorem stageRecord_of_new {e : Staged} {l : List Staged} (h : ¬ ∃ x ∈ l, x.target = e.target) :
    stageRecord e l = l ++ [e] :=
  if_neg (mt (any_target_iff e.target l).1 h)

/-- With no target staged twice, removing one that is staged removes one record (R83). -/
theorem length_filter_target_ne_of_staged {p : BitVec 6} {l : List Staged} (hnodup : (l.map Staged.target).Nodup)
    (h : ∃ e ∈ l, e.target = p) : (l.filter fun e => e.target ≠ p).length = l.length - 1 := by
  have hmap : (l.filter fun e => e.target ≠ p).map Staged.target = (l.map Staged.target).erase p := by
    rw [hnodup.erase_eq_filter, List.filter_map]
    congr 2
    funext e
    simp only [Function.comp_apply, bne, beq_eq_decide, decide_not, ne_eq]
  calc (l.filter fun e => e.target ≠ p).length
      = ((l.map Staged.target).erase p).length := by rw [← hmap, List.length_map]
    _ = l.length - 1 := by rw [List.length_erase_of_mem (List.mem_map.2 h), List.length_map]

/-- Removing a target that is not staged changes nothing (R83). -/
theorem filter_target_ne_of_new {p : BitVec 6} {l : List Staged} (h : ¬ ∃ e ∈ l, e.target = p) :
    (l.filter fun e => e.target ≠ p) = l :=
  List.filter_eq_self.2 fun e he => decide_eq_true fun hp => h ⟨e, he, hp⟩

/-! ### The effect of PROFILE-STAGE (R82) -/

/-- A target that is staged is replaced, and the number staged stays. -/
theorem stageAt_of_staged {p : BitVec 6} {s : State} (h : ∃ e ∈ s.staging, e.target = p) (record : Option Profile) :
    stageAt p record s
      = .ends .done [natWord s.staging.length, 1]
          { s with
            staging := s.staging.map fun e => if e.target = p then { target := p, record := record } else e } := by
  have hroom : stagingRoom p s.staging = true := (stagingRoom_iff _ _).2 (.inl h)
  have hany := (any_target_iff p s.staging).2 h
  rw [stageAt, if_neg (by simp [hroom])]
  simp only [stageRecord_of_staged (e := { target := p, record := record }) h, List.length_map, hany, flagWord, if_true]

/-- A new target fails where 8 are staged. -/
theorem stageAt_of_full {p : BitVec 6} {s : State} (h : ¬ ∃ e ∈ s.staging, e.target = p) (hfull : 8 ≤ s.staging.length)
    (record : Option Profile) : stageAt p record s = .ends .stagingFull [] s := by
  have hroom : ¬ stagingRoom p s.staging = true := fun hr => ((stagingRoom_iff _ _).1 hr).elim h (by omega)
  rw [stageAt, if_pos (by simpa using hroom), failHead]

/-- A new target is put behind the others where fewer than 8 are staged. -/
theorem stageAt_of_new {p : BitVec 6} {s : State} (h : ¬ ∃ e ∈ s.staging, e.target = p)
    (hroom : ¬ 8 ≤ s.staging.length) (record : Option Profile) :
    stageAt p record s
      = .ends .done [natWord (s.staging.length + 1), 0]
          { s with staging := s.staging ++ [{ target := p, record := record }] } := by
  have hplace : stagingRoom p s.staging = true := (stagingRoom_iff _ _).2 (.inr (by omega))
  have hany : (s.staging.any fun e => e.target = p) = false := Bool.eq_false_iff.2 (mt (any_target_iff _ _).1 h)
  rw [stageAt, if_neg (by simp [hplace])]
  simp only [stageRecord_of_new (e := { target := p, record := record }) h, List.length_append, List.length_singleton,
    hany, flagWord, Bool.false_eq_true, if_false]

/-! ### PROFILE-STAGE at the head (R81, R82) -/

section
variable (index valid inHi inLo gain shift outHi outLo lowHi lowLo highHi highLo unit : Word)

/-- R81: values of a valid record that cannot be staged: an offset beyond 24 bits, a shift or a unit above 15, or limits
the wrong way round. -/
abbrev BadStageValues : Prop :=
  (pairValue inHi inLo).toInt < -8388608 ∨ 8388607 < (pairValue inHi inLo).toInt ∨ 15 < shift.toNat ∨ 15 < unit.toNat
    ∨ (pairValue highHi highLo).toInt < (pairValue lowHi lowLo).toInt

/-- R81: the record that the parameter words spell, each pair of words as one signed number. -/
def spelledRecord : Profile :=
  { inputOffset := BitVec.ofInt 24 (pairValue inHi inLo).toInt, gain := gain, shift := shift.setWidth 4,
    outputOffset := BitVec.ofInt 32 (pairValue outHi outLo).toInt,
    clampLow := BitVec.ofInt 32 (pairValue lowHi lowLo).toInt,
    clampHigh := BitVec.ofInt 32 (pairValue highHi highLo).toInt, unit := unit.setWidth 4 }

theorem stageValues_eq :
    stageValues inHi inLo gain shift outHi outLo lowHi lowLo highHi highLo unit
      = if BadStageValues inHi inLo shift lowHi lowLo highHi highLo unit then none
        else some (spelledRecord inHi inLo gain shift outHi outLo lowHi lowLo highHi highLo unit) := by
  have hoffset : BitVec.ofInt 24 (pairValue inHi inLo).toInt = (pairValue inHi inLo).setWidth 24 :=
    BitVec.signExtend_eq_setWidth_of_le _ (by decide)
  simp only [stageValues, spelledRecord, hoffset, BitVec.ofInt_toInt, Bool.and_eq_true, decide_eq_true_eq]
  split
  case isTrue hpass => rw [if_neg (by omega)]
  case isFalse hfail => rw [if_pos (by omega)]

/-- PROFILE-STAGE at the head: its checks, and past them the record it stages, a retirement when the valid word is 0. The
values are checked for a valid record only. -/
theorem takeHead_profileStage (tag : Byte) (target : Word) (s : State) :
    takeHead
        { tag, code := .profileStage, target,
          params := [index, valid, inHi, inLo, gain, shift, outHi, outLo, lowHi, lowLo, highHi, highLo, unit] } s
      = if target ≠ 255 ∨ 63 < index.toNat ∨ 1 < valid.toNat
            ∨ (valid = 1 ∧ BadStageValues inHi inLo shift lowHi lowLo highHi highLo unit) then
          .ends .badParameter [] s
        else
          stageAt (index.setWidth 6)
            (if valid = 0 then none
            else some (spelledRecord inHi inLo gain shift outHi outLo lowHi lowLo highHi highLo unit)) s := by
  simp only [takeHead, takeProfileStage, stageValues_eq, failHead, Bool.or_eq_true, decide_eq_true_eq]
  by_cases hrange : (target ≠ 255 ∨ 63 < index.toNat) ∨ 1 < valid.toNat
  case pos => rw [if_pos hrange, if_pos (hrange.elim (·.imp_right .inl) (.inr ∘ .inr ∘ .inl))]
  case neg =>
    have hvalues {bad : Prop} : (target ≠ 255 ∨ 63 < index.toNat ∨ 1 < valid.toNat ∨ bad) → bad := by tauto
    rw [if_neg hrange]
    by_cases hretire : valid = 0
    case pos =>
      have hone : valid ≠ 1 := by simp [hretire]
      rw [if_pos hretire, if_neg (mt hvalues (mt And.left hone)), if_pos hretire]
    case neg =>
      have hone : valid = 1 := by bv_omega
      rw [if_neg hretire, if_neg hretire]
      by_cases hbad : BadStageValues inHi inLo shift lowHi lowLo highHi highLo unit
      case pos => rw [if_pos hbad, if_pos (.inr (.inr (.inr ⟨hone, hbad⟩)))]
      case neg => rw [if_neg hbad, if_neg (mt hvalues (mt And.right hbad))]

end

/-! ### PROFILE-DISCARD at the head (R83) -/

/-- PROFILE-DISCARD of no index and not of all fails its check. -/
theorem takeHead_profileDiscard_of_refused {target index : Word}
    (h : target ≠ 255 ∨ (63 < index.toNat ∧ index ≠ 255)) (tag : Byte) (s : State) :
    takeHead { tag, code := .profileDiscard, target, params := [index] } s = .ends .badParameter [] s := by
  simp only [takeHead, takeProfileDiscard]
  rw [if_pos (by simpa using h), failHead]

section
variable {target index : Word} {s : State} (hok : ¬ (target ≠ 255 ∨ (63 < index.toNat ∧ index ≠ 255)))
include hok

/-- PROFILE-DISCARD of 255 removes every record. -/
theorem takeHead_profileDiscard_all (hall : index = 255) (tag : Byte) :
    takeHead { tag, code := .profileDiscard, target, params := [index] } s
      = .ends .done [natWord s.staging.length, 0] { s with staging := [] } := by
  simp only [takeHead, takeProfileDiscard]
  rw [if_neg (by simpa using hok), if_pos hall]
  rfl

variable (hindex : index ≠ 255)
include hindex

/-- PROFILE-DISCARD of an index keeps the records of the other targets. -/
theorem takeHead_profileDiscard_index {kept : List Staged}
    (hkept : (s.staging.filter fun e => e.target ≠ index.setWidth 6) = kept) (tag : Byte) :
    takeHead { tag, code := .profileDiscard, target, params := [index] } s
      = .ends .done [natWord (s.staging.length - kept.length), natWord kept.length] { s with staging := kept } := by
  simp only [takeHead, takeProfileDiscard]
  rw [if_neg (by simpa using hok), if_neg hindex, hkept]

/-- PROFILE-DISCARD of a staged target removes its one record. -/
theorem takeHead_profileDiscard_of_staged (hnodup : (s.staging.map Staged.target).Nodup)
    (hstaged : ∃ e ∈ s.staging, e.target = index.setWidth 6) (tag : Byte) :
    takeHead { tag, code := .profileDiscard, target, params := [index] } s
      = .ends .done [1, natWord (s.staging.length - 1)]
          { s with staging := s.staging.filter fun e => e.target ≠ index.setWidth 6 } := by
  have hpos : 0 < s.staging.length := List.length_pos_of_mem hstaged.choose_spec.1
  have hdiff : s.staging.length - (s.staging.length - 1) = 1 := by omega
  rw [takeHead_profileDiscard_index hok hindex rfl, length_filter_target_ne_of_staged hnodup hstaged, hdiff]
  rfl

/-- PROFILE-DISCARD of a target that is not staged removes nothing. -/
theorem takeHead_profileDiscard_of_new (hnew : ¬ ∃ e ∈ s.staging, e.target = index.setWidth 6) (tag : Byte) :
    takeHead { tag, code := .profileDiscard, target, params := [index] } s
      = .ends .done [0, natWord s.staging.length] s := by
  rw [takeHead_profileDiscard_index hok hindex (filter_target_ne_of_new hnew), Nat.sub_self]
  rfl

end

/-! ### Both commands -/

/-- A command that reads no more of the state than the Staging Area ends on arrival as it ends at the head: admission
leaves the Staging Area (R128). -/
theorem endsAtHead_of_staging {row : Port → List Word → Instr} {q : QueuedCode} {target : Word} {params : List Word}
    {s : State} {o : CommandOutcome} {data : List Word} {effect : State → State}
    (hrow : ∀ ws, (row .control ws).frame? = some (.control, ws)) (hlen : params.length ≤ 58)
    (hfits : ∀ w, queuedLength q (w :: target :: params) = some (params.length + 2))
    (hhead : ∀ t : State, t.staging = s.staging → ∀ tag : Byte,
      takeHead { tag, code := q, target, params } t = .ends o data (effect t)) :
    EndsAtHead row q target params s o data effect :=
  endsAtHead_of_takeHead hrow hlen hfits (hhead s rfl) fun tag => hhead _ (admitted_staging q tag s) tag

/-- Settles O43: past its checks PROFILE-STAGE replaces a staged target, fails at 8 or puts a record behind the others;
PROFILE-DISCARD removes all, the one record of a staged target (no target is staged twice), or none. -/
theorem stagingCommandsWriteAndRemoveRecords : Obligations.StagingCommandsWriteAndRemoveRecords := by
  refine ⟨fun s target index valid inHi inLo gain shift outHi outLo lowHi lowLo highHi highLo unit => ?stage,
    fun s target index hnodup => ?discard⟩
  case stage =>
    simp only [← pairValue_eq]
    have stages {o data effect} := @endsAtHead_of_staging .profileStage .profileStage target
      [index, valid, inHi, inLo, gain, shift, outHi, outLo, lowHi, lowLo, highHi, highLo, unit] s o data effect
      (fun _ => rfl) (by simp) (fun _ => rfl)
    split
    case isTrue hbad => exact stages fun t _ tag => by rw [takeHead_profileStage, if_pos hbad, id]
    case isFalse hok =>
      split
      case isTrue hstaged =>
        refine stages fun t ht tag => ?_
        rw [← ht] at hstaged ⊢
        rw [takeHead_profileStage, if_neg hok, stageAt_of_staged hstaged]
        rfl
      case isFalse hnew =>
        split
        case isTrue hfull =>
          refine stages fun t ht tag => ?_
          rw [← ht] at hnew hfull
          rw [takeHead_profileStage, if_neg hok, stageAt_of_full hnew hfull, id]
        case isFalse hroom =>
          refine stages fun t ht tag => ?_
          rw [← ht] at hnew hroom ⊢
          rw [takeHead_profileStage, if_neg hok, stageAt_of_new hnew hroom]
          rfl
  case discard =>
    intro ends
    have discards {o data effect} := @endsAtHead_of_staging .profileDiscard .profileDiscard target [index] s o data effect
      (fun _ => rfl) (by simp) (fun _ => rfl)
    split
    case isTrue hbad => exact discards fun t _ tag => takeHead_profileDiscard_of_refused hbad tag t
    case isFalse hok =>
      split
      case isTrue hall =>
        exact discards fun t ht tag => ht ▸ takeHead_profileDiscard_all hok hall tag
      case isFalse hindex =>
        split
        case isTrue hstaged =>
          refine discards fun t ht tag => ?_
          rw [← ht] at hnodup hstaged ⊢
          exact takeHead_profileDiscard_of_staged hok hindex hnodup hstaged tag
        case isFalse hnew =>
          refine discards fun t ht tag => ?_
          rw [← ht] at hnew ⊢
          exact takeHead_profileDiscard_of_new hok hindex hnew tag

end Sys2Proof.Machine
end

section
/-! SUPPORT. COUNTERS-READ (R117, R118, R192): a context and the part give their counters as pairs of words and clear
them on request; the part's counters read on arrival are those in which the command itself is counted. -/

namespace Sys2Proof.Machine

open Sys2Proof.Safety

/-! ### Taking a command in the event of its arrival -/

/-- What a command does at the head of the state that has admitted it is what it does in the event of its arrival,
whatever it would do before it is counted. -/
theorem endsOnArrival_of_takeHead {row : Port → List Word → Instr} {q : QueuedCode} {target : Word}
    {params : List Word} {s : State} {o : CommandOutcome} {data : List Word} {effect : State → State}
    (hrow : ∀ ws, (row .control ws).frame? = some (.control, ws)) (hlen : params.length ≤ 58)
    (hfits : ∀ w, queuedLength q (w :: target :: params) = some (params.length + 2))
    (hadmitted : ∀ tag : Byte, takeHead { tag, code := q, target, params } (admitted q tag s)
      = .ends o data (effect (admitted q tag s))) :
    EndsOnArrival row q target params s o data effect := by
  intro tag seq channel hs
  rw [exec_of_hearsCommand hs.1 seq channel target hlen (hrow _),
    admission_of_takesNow hs target params s.path (hfits _), runQueue_single_of_ends (hadmitted tag)]

/-- A command whose end turns on one context record ends on arrival as it ends at the head: admission leaves the
record (R128). -/
theorem endsAtHead_of_context {row : Port → List Word → Instr} {q : QueuedCode} {target : Word} {params : List Word}
    {s : State} {o : CommandOutcome} {data : List Word} {effect : State → State} (i : Fin 32)
    (hrow : ∀ ws, (row .control ws).frame? = some (.control, ws)) (hlen : params.length ≤ 58)
    (hfits : ∀ w, queuedLength q (w :: target :: params) = some (params.length + 2))
    (hhead : ∀ t : State, t.context i = s.context i → ∀ tag : Byte,
      takeHead { tag, code := q, target, params } t = .ends o data (effect t)) :
    EndsAtHead row q target params s o data effect :=
  endsAtHead_of_takeHead hrow hlen hfits (hhead s rfl) fun tag => hhead _ (admitted_context q tag s i) tag

/-- R192: admission counts the command as a good frame at the control port, as received and as admitted. -/
@[simp] theorem admitted_part (q : QueuedCode) (tag : Byte) (s : State) :
    (admitted q tag s).part
      = { s.part with
          controlGood := satAdd s.part.controlGood 1, commandsReceived := satAdd s.part.commandsReceived 1,
          commandsAdmitted := satAdd s.part.commandsAdmitted 1 } := by
  simp only [admitted, heardCommand_part]

/-! ### Counters as words (R118, R192) -/

@[simp] theorem counterWords_nil : counterWords [] = [] := rfl

/-- A counter is two words, the quotient and the remainder by 65536. -/
@[simp] theorem counterWords_cons (n : BitVec 32) (rest : List (BitVec 32)) :
    counterWords (n :: rest) = [natWord (n.toNat / 65536), natWord n.toNat] ++ counterWords rest := by
  rw [counterWords, List.flatMap_cons, wordPair_eq, counterWords]

/-! ### COUNTERS-READ of a context (R117, R118) -/

/-- COUNTERS-READ of neither a context nor the part fails its check. -/
theorem takeHead_countersRead_of_gt {target : Word} (h : 31 < target.toNat) (hpart : target ≠ 255) (clear : Word)
    (tag : Byte) (s : State) :
    takeHead { tag, code := .countersRead, target, params := [clear] } s = .ends .badParameter [] s := by
  simp only [takeHead, takeCountersRead, targetContext_of_gt h, if_neg hpart, failHead]

theorem takeHead_countersRead_context (i : Fin 32) (clear : Word) (tag : Byte) (s : State) :
    takeHead { tag, code := .countersRead, target := natWord i, params := [clear] } s = countersReadOne i clear s := by
  simp only [takeHead, takeCountersRead, targetContext_natWord]

section
variable {i : Fin 32} {clear : Word} {s : State}

/-- The clear option is checked first. -/
theorem countersReadOne_of_badClear (h : 1 < clear.toNat) : countersReadOne i clear s = .ends .badParameter [] s := by
  simp only [countersReadOne, if_pos h, failHead]

variable (hclear : ¬ 1 < clear.toNat)
include hclear

/-- A FREE context has no counters to read. -/
theorem countersReadOne_of_free (hfree : (s.context i).state = .free) :
    countersReadOne i clear s = .ends .wrongState [] s := by
  simp only [countersReadOne, if_neg hclear, if_pos hfree, failHead]

/-- The counters of any other context are read, and then cleared when the option says so. -/
theorem countersReadOne_of_not_free (hbound : (s.context i).state ≠ .free) {k : ContextCounters}
    (hk : (s.context i).counters = k) :
    countersReadOne i clear s
      = .ends .done (counterWords k.toList)
          (if clear = 1 then s.setContext i { s.context i with counters := {} } else s) := by
  simp only [countersReadOne, if_neg hclear, if_neg hbound, hk]

end

/-! ### COUNTERS-READ of the part (R117, R192) -/

theorem takeHead_countersRead_part (clear : Word) (tag : Byte) (s : State) :
    takeHead { tag, code := .countersRead, target := 255, params := [clear] } s = countersReadAll clear s :=
  rfl

theorem countersReadAll_of_badClear {clear : Word} (h : 1 < clear.toNat) (s : State) :
    countersReadAll clear s = .ends .badParameter [] s := by
  simp only [countersReadAll, if_pos h, failHead]

/-- The part counters are read as they stand, and then cleared when the option says so. -/
theorem countersReadAll_of_clearOk {clear : Word} (h : ¬ 1 < clear.toNat) {s : State} {k : PartCounters}
    (hk : s.part = k) :
    countersReadAll clear s
      = .ends .done (counterWords k.toList) (if clear = 1 then { s with part := State.reset.part } else s) := by
  simp only [countersReadAll, if_neg h, hk]
  rfl

/-! ### The obligation -/

/-- Settles O40: a target or a clear option out of range fails, as does a FREE context; any other context gives the
counters of its record, which admission leaves; the part gives the counters as they stand, on arrival those in which
admission has counted the command. -/
theorem countersReadReturnsAndClears : Obligations.CountersReadReturnsAndClears := by
  refine ⟨fun s clear => ⟨fun target hgt hpart => ?neither, fun i => ?context⟩, fun s clear => ?part⟩
  case neither =>
    exact endsAtHead_of_takeHead (fun _ => rfl) (by simp) (fun _ => rfl)
      (fun tag => takeHead_countersRead_of_gt hgt hpart clear tag s)
      fun tag => takeHead_countersRead_of_gt hgt hpart clear tag _
  case context =>
    intro ends k two
    have reads {o data effect} :=
      @endsAtHead_of_context .countersRead .countersRead (natWord i) [clear] s o data effect i (fun _ => rfl) (by simp)
        (fun _ => rfl)
    split
    case isTrue hbad =>
      exact reads fun t _ tag => by rw [takeHead_countersRead_context, countersReadOne_of_badClear hbad, id]
    case isFalse hclear =>
      split
      case isTrue hfree =>
        refine reads fun t ht tag => ?_
        rw [← ht] at hfree
        rw [takeHead_countersRead_context, countersReadOne_of_free hclear hfree, id]
      case isFalse hbound =>
        refine reads fun t ht tag => ?_
        have hcounters : (t.context i).counters = k := congrArg Context.counters ht
        rw [← ht] at hbound
        rw [takeHead_countersRead_context, countersReadOne_of_not_free hclear hbound hcounters]
        simp only [ContextCounters.toList, counterWords_cons, counterWords_nil, two, List.append_assoc, List.append_nil]
        rfl
  case part =>
    intro two words cleared atHead onArrival
    have arrives {o data effect} :=
      @endsOnArrival_of_takeHead .countersReadPart .countersRead 255 [clear] s o data effect (fun _ => rfl) (by simp)
        (fun _ => rfl)
    split
    case isTrue hbad =>
      have fails (t : State) (tag : Byte) :
          takeHead { tag, code := .countersRead, target := 255, params := [clear] } t = .ends .badParameter [] t := by
        rw [takeHead_countersRead_part, countersReadAll_of_badClear hbad]
      exact ⟨fails s, arrives fun tag => fails _ tag⟩
    case isFalse hclear =>
      have hwords (k : PartCounters) : counterWords k.toList = words k := by
        simp only [PartCounters.toList, counterWords_cons, counterWords_nil, words, two, List.append_assoc,
          List.append_nil]
      refine ⟨fun tag => ?_, arrives fun tag => ?_⟩
      · rw [takeHead_countersRead_part, countersReadAll_of_clearOk hclear rfl, hwords]
      · rw [takeHead_countersRead_part, countersReadAll_of_clearOk hclear (admitted_part _ tag s), hwords]

end Sys2Proof.Machine
end

section
/-! SUPPORT. The admission checks (R123, R124) where they find a duplicate or pass an immediate command, and the states
that a refusal and a duplicate leave (R125, R127). -/

namespace Sys2Proof.Machine

open Sys2Proof.Safety

/-! ### The arrival of a good COMMAND frame -/

/-- A good COMMAND frame of any row is judged for admission, and the arbiter chooses (R121, R123). -/
theorem exec_of_hearsFrame_command {r : Instr} {ws : List Word} {f : Frame} {s : State}
    (hr : r.frame? = some (.control, ws)) (hs : HearsFrame s .control ws .command f) :
    exec r s = .next (arbitrate (admission f.payload s.path (heardCommand s))) := by
  rw [exec_of_frame hr, frameArrives_of_hears hs, handOn_command]

/-! ### The code, the tag and the length of a payload -/

/-- The command code is the quotient of payload word 0 by 256 (R195). -/
theorem codeOf_eq_ofNat (w0 : Word) : codeOf w0 = BitVec.ofNat 8 (w0.toNat / 256) := by
  apply BitVec.eq_of_toNat_eq
  simp [codeOf, Nat.shiftRight_eq_div_pow]

/-- The tag is the remainder of payload word 0 by 256 (R195). -/
theorem tagOf_eq_ofNat (w0 : Word) : tagOf w0 = BitVec.ofNat 8 (w0.toNat % 256) := by
  apply BitVec.eq_of_toNat_eq
  simp [tagOf]

/-- A payload of an allowed length is of a known code and passes that code's check (R122, R124). -/
theorem commandFits_of_payloadFits {n : Nat} {payload : List Word} (h : payloadFits n payload) :
    ∃ code, CommandCode.ofByte (BitVec.ofNat 8 n) = some code ∧ commandFits code payload = true := by
  obtain hrow | ⟨rfl, count, hcount, hlen⟩ | ⟨rfl, hlen, hscope⟩ := h
  · simp only [List.mem_cons, List.not_mem_nil, or_false, Prod.mk.injEq] at hrow
    rcases hrow with ⟨rfl, hlen⟩ | ⟨rfl, hlen⟩ | ⟨rfl, hlen⟩ | ⟨rfl, hlen⟩ | ⟨rfl, hlen⟩ | ⟨rfl, hlen⟩ | ⟨rfl, hlen⟩
      | ⟨rfl, hlen⟩ | ⟨rfl, hlen⟩ | ⟨rfl, hlen⟩ | ⟨rfl, hlen⟩ | ⟨rfl, hlen⟩ | ⟨rfl, hlen⟩ | ⟨rfl, hlen⟩ | ⟨rfl, hlen⟩
      | ⟨rfl, hlen⟩ | ⟨rfl, hlen⟩ | ⟨rfl, hlen⟩ | ⟨rfl, hlen⟩ <;>
      exact ⟨_, rfl, by simp [commandFits, queuedLength, immediateLength, hlen]⟩
  · exact ⟨.queued .mapWrite, rfl, by simp only [commandFits, queuedLength, hcount, hlen, Option.map_some, decide_true]⟩
  · exact ⟨.immediate .resetPart, rfl, by simpa [commandFits, immediateLength, hlen] using hscope⟩

/-! ### Results of the checks -/

/-- A well-formed command whose pair is listed is a duplicate (R123, R127). -/
theorem admission_of_duplicate {w0 target : Word} {params : List Word} {code : CommandCode} {s : State}
    (hcode : CommandCode.ofByte (codeOf w0) = some code) (hfits : commandFits code (w0 :: target :: params) = true)
    (hlisted : (tagOf w0, codeOf w0) ∈ s.recent) (pathBefore : ReportPath) :
    admission (w0 :: target :: params) pathBefore s = ignoreDuplicate s := by
  simp only [admission, hcode]
  rw [if_neg (by simp [hfits]), if_pos (by simpa using hlisted)]

/-- A well-formed immediate command that is heard is taken (R123). -/
theorem admission_of_immediate {s : State} {i : ImmediateCode} {tag : Byte} (hs : HearsCommand s i.toByte tag)
    {target : Word} {params : List Word}
    (hfits : commandFits (.immediate i) ((i.toByte ++ tag) :: target :: params) = true) (pathBefore : ReportPath) :
    admission ((i.toByte ++ tag) :: target :: params) pathBefore (heardCommand s)
      = takeImmediate tag i ((i.toByte ++ tag) :: target :: params) pathBefore (heardCommand s) := by
  obtain ⟨-, -, hnew⟩ := hs
  simp only [admission, codeOf_append, tagOf_append, CommandCode.ofByte_immediate]
  rw [if_neg (by simp [hfits]), if_neg (by simpa using hnew)]

/-- A duplicate on arrival adds to one counter, and changes nothing else (R127). -/
theorem ignoreDuplicate_heardCommand (s : State) :
    ignoreDuplicate (heardCommand s)
      = { heardCommand s with
          part := { (heardCommand s).part with commandDuplicates := satAdd s.part.commandDuplicates 1 } } := by
  simp only [ignoreDuplicate, countPart, heardCommand_part]

/-- A refusal on arrival is counted, and latched with the tag, the code and the reason (R125). -/
theorem refuse_heardCommand (code tag : Byte) (rest : List Word) (reason : RefusalReason) (s : State) :
    refuse ((code ++ tag) :: rest) reason (heardCommand s)
      = { heardCommand s with
          part := { (heardCommand s).part with commandsRefused := satAdd s.part.commandsRefused 1 }
          partLatch := latchAdd 8 .latest [tag.setWidth 16, code.setWidth 16, reason.code] s.partLatch } := by
  simp only [refuse, latchPart, countPart, codeOf_append, tagOf_append, heardCommand_part, heardCommand_partLatch]
  rfl

/-! ### The obligation on duplicates -/

/-- Settles O33: the length of R122 passes the checks before the list, and the listed pair is then a duplicate. -/
theorem duplicateIsCountedAndIgnored : Obligations.DuplicateIsCountedAndIgnored := by
  intro r ws f s w0 target params hr hs hpayload hfits hlisted h
  rw [hpayload] at hfits
  rw [← codeOf_eq_ofNat, ← tagOf_eq_ofNat, ← heardCommand_recent] at hlisted
  obtain ⟨code, hcode, hfits⟩ := commandFits_of_payloadFits hfits
  rw [← codeOf_eq_ofNat] at hcode
  rw [exec_of_hearsFrame_command hr hs, hpayload, admission_of_duplicate hcode hfits hlisted,
    ignoreDuplicate_heardCommand]

end Sys2Proof.Machine
end

section
/-! SUPPORT. STATUS (R138): its report where there is room and its refusal where there is none, and its words as the
state stood before the frame. -/

namespace Sys2Proof.Machine

open Sys2Proof.Safety

/-! ### What the arrival of an immediate command leaves for STATUS to read -/

@[simp] theorem heardCommand_controlLink (s : State) :
    (heardCommand s).controlLink = { s.controlLink with midFrame := false } := by
  simp only [heardCommand, recoverPath_controlLink, countPart_controlLink]
  rfl

@[simp] theorem takenAtOnce_controlLink (i : ImmediateCode) (tag : Byte) (s : State) :
    (takenAtOnce i tag s).controlLink = { s.controlLink with midFrame := false } :=
  heardCommand_controlLink s

@[simp] theorem takenAtOnce_reports_length (i : ImmediateCode) (tag : Byte) (s : State) :
    (takenAtOnce i tag s).reports.length = s.reports.length :=
  heardCommand_reports_length s

/-! ### STATUS -/

/-- With room for its report STATUS is entered in the list and reports; without, it is refused (R138). -/
theorem takeImmediate_status (tag : Byte) (payload : List Word) (pathBefore : ReportPath) (s : State) :
    takeImmediate tag .status payload pathBefore (heardCommand s)
      = if s.reportLoad < 16 then
          queueReport (.completion tag 34 .done 0 255 (statusWords pathBefore (takenAtOnce .status tag s)))
            (takenAtOnce .status tag s)
        else refuse payload .noReportSpace (heardCommand s) := by
  simp only [takeImmediate, takeStatus, takenAtOnce_eq, heardCommand_reportLoad]
  rfl

/-- The words of STATUS are those of the state before its frame, whose arrival shows that the control link is UP; the
path is the one given (R138). -/
theorem statusWords_takenAtOnce {s : State} (hreleased : s.resetHeld = false) (hup : s.controlLink.up = true)
    (i : ImmediateCode) (tag : Byte) (pathBefore : ReportPath) :
    statusWords pathBefore (takenAtOnce i tag s)
      = [0x3208, 1, if s.fieldLink.up then 1 else 0, 1, if pathBefore = .stalled then 1 else 0,
          natWord s.commandQueue.length, natWord s.reservations, natWord s.reports.length,
          natWord s.staging.length, if s.commitPending then 1 else 0,
          match s.capture with
            | none => 0xFFFF
            | some k => (match k.stage with | .armed => 1 | .collecting => 2),
          s.generation, if s.lastCycle = none then 0 else 1, s.lastCycle.getD 0,
          natWord ((List.finRange 32).countP fun i => (s.context i).state ≠ .free)] := by
  have hfield : (takenAtOnce i tag s).linkUp .field = s.fieldLink.up := by simp [hreleased]
  have hcontrol : (takenAtOnce i tag s).linkUp .control = true := by simp [hreleased, hup]
  simp only [statusWords, hfield, hcontrol, State.countContexts_eq, takenAtOnce_commandQueue, takenAtOnce_reservations,
    takenAtOnce_reports_length, takenAtOnce_staging, takenAtOnce_commitPending, takenAtOnce_capture,
    takenAtOnce_generation, takenAtOnce_lastCycle, takenAtOnce_context, flagWord, if_true, List.cons.injEq, true_and,
    and_true]
  refine ⟨?path, ?capture, ?cycle⟩
  case path => cases pathBefore <;> rfl
  case capture =>
    rcases s.capture with _ | k
    · rfl
    · cases hk : k.stage <;> simp only [hk] <;> rfl
  case cycle => cases s.lastCycle <;> rfl

/-- Settles O48: the frame passes the admission checks, and the load on its arrival decides between the report, whose
words are those of the state before the frame, and the refusal. -/
theorem statusReportsTheState : Obligations.StatusReportsTheState := by
  intro s tag seq channel target hs answers
  have hexec : exec (.status .control (commandWords seq channel 34 tag target [])) s
      = .next
        (arbitrate
          (takeImmediate tag .status [ImmediateCode.status.toByte ++ tag, target] s.path (heardCommand s))) := by
    rw [exec_of_hearsCommand hs seq channel target (by simp) rfl, ← admission_of_immediate hs rfl s.path]
    rfl
  obtain ⟨hreleased, hup, -⟩ := hs
  refine ⟨fun hroom => ?room, fun hfull => ?full⟩
  case room =>
    have hload : s.reportLoad < 16 := hroom
    simp only [answers]
    rw [hexec, takeImmediate_status, if_pos hload]
    exact congrArg
      (fun words =>
        Host.Outcome.next
          (arbitrate (queueReport (.completion tag 34 .done 0 255 words) (takenAtOnce .status tag s))))
      (statusWords_takenAtOnce hreleased hup .status tag s.path)
  case full =>
    have hload : ¬ s.reportLoad < 16 := Nat.not_lt.2 hfull
    simp only [answers]
    rw [hexec, takeImmediate_status, if_neg hload, refuse_heardCommand]
    rfl

end Sys2Proof.Machine
end

section
/-! SUPPORT. The Report Unit: what an expiry of the retry timer does within the limit and above it (R168), the state in
which a COMMAND frame is met on a RUNNING and on a STALLED path (R171), and ACK-REPORTS (R165, R166). -/

namespace Sys2Proof.Machine

open Sys2Proof.Safety

/-! ### An expiry of the retry timer (R168) -/

theorem exec_retryTimerExpiry {s : State} (hreleased : s.resetHeld = false) :
    exec .retryTimerExpiry s = .next (timerExpires s) :=
  congrArg Host.Outcome.next (State.live_of_released hreleased timerExpires)

section
variable {s : State} {running : Byte} (htimer : s.retryTimer = some running)
include htimer

/-- Within the limit an expiry goes back. -/
theorem timerExpires_of_within (hwithin : s.retryCount + 1 ≤ s.retryLimit.toNat) :
    timerExpires s
      = arbitrate
          { s with
            retryCount := s.retryCount + 1
            reports := unsendAll s.reports
            retryTimer := some s.retryInterval } := by
  simp only [timerExpires, htimer, Option.isNone_some, Bool.false_eq_true, if_false, if_pos hwithin]

/-- Above the limit an expiry stalls the path. -/
theorem timerExpires_of_above (habove : s.retryLimit.toNat < s.retryCount + 1) :
    timerExpires s = { s with retryCount := s.retryCount + 1, path := .stalled, retryTimer := none } := by
  simp only [timerExpires, htimer, Option.isNone_some, Bool.false_eq_true, if_false, if_neg (Nat.not_le.2 habove)]

end

/-! ### The path on the arrival of a COMMAND frame (R171) -/

theorem recoverPath_of_stalled {s : State} (h : s.path = .stalled) :
    recoverPath s
      = { s with path := .running, reports := unsendAll s.reports, retryCount := 0, retryTimer := none } :=
  if_pos h

/-- Before the path is looked at, the frame is counted at the port and as received (R121, R181). -/
theorem heardCommand_eq_recoverPath (s : State) :
    heardCommand s
      = recoverPath
          { s with
            controlLink := { s.controlLink with midFrame := false }
            part :=
              { s.part with
                controlGood := satAdd s.part.controlGood 1,
                commandsReceived := satAdd s.part.commandsReceived 1 } } :=
  rfl

/-- Settles O50: the expiry within the limit and above it, of which the default limit is a case, and the recovery of a
STALLED path by the counted frame. -/
theorem retryTimerGoesBackStallsAndRecovers : Obligations.RetryTimerGoesBackStallsAndRecovers := by
  refine ⟨fun s running hreleased htimer => ?expiry, fun s => ?arrival⟩
  case expiry =>
    rw [exec_retryTimerExpiry hreleased]
    refine ⟨fun hwithin => ?_, fun habove => ?_, fun hlimit hcount => ?_⟩
    · rw [timerExpires_of_within htimer hwithin, unsendAll]
    · rw [timerExpires_of_above htimer habove]
    · have habove : s.retryLimit.toNat < s.retryCount + 1 := by rw [hlimit, hcount]; decide
      rw [timerExpires_of_above htimer habove, hcount]
  case arrival =>
    intro counted
    rw [heardCommand_eq_recoverPath]
    exact ⟨fun hrunning => recoverPath_idle hrunning, fun hstalled => recoverPath_of_stalled hstalled⟩

/-! ### ACK-REPORTS (R165, R166) -/

/-- What stands behind the first element that passes a test. -/
theorem drop_findIdx_succ_append {α : Type} {p : α → Bool} {before : List α} {r : α} (after : List α)
    (hbefore : ∀ x ∈ before, p x = false) (hr : p r = true) :
    (before ++ r :: after).drop ((before ++ r :: after).findIdx p + 1) = after := by
  induction before with
  | nil => simp [List.findIdx_cons, hr]
  | cons x before ih =>
    obtain ⟨hx, hrest⟩ := List.forall_mem_cons.1 hbefore
    simpa [List.findIdx_cons, hx] using ih hrest

/-- A SENT report of the sequence goes with those before it, and the timer restarts if SENT reports remain (R165). -/
theorem takeAck_of_sent {s : State} {n : Word} {before after : List Report} {r : Report}
    (hreports : s.reports = before ++ r :: after) (hsent : r.sent = true) (hseq : r.seq = n)
    (hfirst : ∀ x ∈ before, ¬ (x.sent = true ∧ x.seq = n)) :
    takeAck n s
      = { s with
          reports := after
          retryCount := 0
          retryTimer := if ∃ x ∈ after, x.sent = true then some s.retryInterval else none } := by
  have hany : s.reports.any (fun r => r.sent && r.seq = n) = true := by
    rw [hreports]; simp [hsent, hseq]
  have hleft : s.reports.drop (s.reports.findIdx (fun r => r.sent && r.seq = n) + 1) = after := by
    rw [hreports]
    exact drop_findIdx_succ_append after (fun x hx => by simpa using hfirst x hx) (by simp [hsent, hseq])
  simp only [takeAck, hany, if_true, hleft, anySent, List.any_eq_true]

/-- Where no SENT report has the sequence, the acknowledgement is latched (R166). -/
theorem takeAck_of_not_sent {s : State} {n : Word} (hnone : ∀ x ∈ s.reports, ¬ (x.sent = true ∧ x.seq = n)) :
    takeAck n s = latchPart .ackInvalid [n, natWord (s.reports.countP fun x => x.sent)] s :=
  if_neg (by simpa using hnone)

theorem takeImmediate_ackReports (tag : Byte) (w0 target n : Word) (pathBefore : ReportPath) (s : State) :
    takeImmediate tag .ackReports [w0, target, n] pathBefore s = takeAck n (countImmediate s) :=
  rfl

/-- Settles O46: the frame passes the admission checks, is counted as an immediate command without an entry in the list,
and whether a SENT report has its sequence decides between the removal and the latch. -/
theorem ackRemovesTheSentReports : Obligations.AckRemovesTheSentReports := by
  intro s tag seq channel target n hs h a acked
  have hcounted : countImmediate (heardCommand s) = a := by
    simp only [a, h, countImmediate, countPart, heardCommand_part]
  have hexec : exec (.ackReports .control (commandWords seq channel 32 tag target [n])) s
      = .next (arbitrate (takeAck n a)) := by
    rw [← hcounted, ← takeImmediate_ackReports tag (ImmediateCode.ackReports.toByte ++ tag) target n s.path,
      ← admission_of_immediate (i := .ackReports) hs rfl s.path]
    exact exec_of_hearsCommand hs seq channel target (by simp) rfl
  refine ⟨fun before after r hreports hsent hseq hfirst => ?valid, fun hnone => ?invalid⟩
  case valid =>
    simp only [acked]
    rw [hexec, takeAck_of_sent (s := a) hreports hsent hseq hfirst]
    simp only [a, h, heardCommand_retryInterval]
  case invalid =>
    simp only [acked]
    rw [hexec, takeAck_of_not_sent (s := a) hnone]
    simp only [latchPart, a, h, heardCommand_partLatch]
    rfl

end Sys2Proof.Machine
end

section
/-! SUPPORT. What an event may do to one context record: the operations of chapters 1 to 6 on a record keep its key, the
order of its latch (R172), the law of its state (R13, R44) and the bound of its budget (R109). -/

namespace Sys2Proof.Machine

set_option Elab.async false

open Sys2Proof.Safety

/-! ### Latching at a context (R172) -/

section
variable (k : ContextKind) (detail : List Word) (c : Context)

@[simp] theorem Context.latchKind_state : (c.latchKind k detail).state = c.state := by
  unfold Context.latchKind; split <;> rfl
@[simp] theorem Context.latchKind_key : (c.latchKind k detail).key = c.key := by
  unfold Context.latchKind; split <;> rfl
@[simp] theorem Context.latchKind_held : (c.latchKind k detail).held = c.held := by
  unfold Context.latchKind; split <;> rfl
@[simp] theorem Context.latchKind_descriptor : (c.latchKind k detail).descriptor = c.descriptor := by
  unfold Context.latchKind; split <;> rfl
@[simp] theorem Context.latchKind_activeProfile : (c.latchKind k detail).activeProfile = c.activeProfile := by
  unfold Context.latchKind; split <;> rfl
@[simp] theorem Context.latchKind_quota : (c.latchKind k detail).quota = c.quota := by
  unfold Context.latchKind; split <;> rfl
@[simp] theorem Context.latchKind_budget : (c.latchKind k detail).budget = c.budget := by
  unfold Context.latchKind; split <;> rfl

theorem Context.latchKind_wf (h : Table.wf c.latch) : Table.wf (c.latchKind k detail).latch := by
  unfold Context.latchKind
  split
  · exact latchAdd_wf h
  · exact h

end

/-! ### The law of the five states (R13, R44) -/

/-- The law for a context that is not FREE, read by what it demands of each field. -/
theorem contextInLaw_iff_of_not_free {profiles : Table 6 Profile} {c : Context} (h : c.state ≠ .free) :
    ContextInLaw profiles c
      ↔ c.key.isSome ∧ (c.descriptor.isSome ↔ c.state ≠ .bound) ∧ (c.state = .active → c.activeProfile.isSome)
        ∧ (c.activeProfile.isSome → c.state = .active ∨ c.state = .stale)
        ∧ ∀ p, c.activeProfile = some p → validProfile profiles p = true := by
  unfold ContextInLaw
  cases hs : c.state <;> cases hd : c.descriptor <;> cases hp : c.activeProfile <;> simp_all

/-- A context in law is FREE exactly when it holds no key. -/
theorem free_iff_of_inLaw {profiles : Table 6 Profile} {c : Context} (h : ContextInLaw profiles c) :
    c.state = .free ↔ c.key = none := by
  obtain ⟨hstate, -⟩ := h
  cases hs : c.state <;> simp only [hs] at hstate
  case free => simp [hstate.1]
  all_goals simp [Option.isSome_iff_ne_none.1 hstate.1]

/-- A FREE context in law holds no descriptor. -/
theorem descriptor_of_free {profiles : Table 6 Profile} {c : Context} (h : ContextInLaw profiles c)
    (hfree : c.state = .free) : c.descriptor = none := by
  obtain ⟨hstate, -⟩ := h
  rw [hfree] at hstate
  exact hstate.2.1

/-- A context in law whose latch holds an entry is not FREE. -/
theorem not_free_of_latch {profiles : Table 6 Profile} {c : Context} (h : ContextInLaw profiles c)
    (hlatch : c.latch ≠ []) : c.state ≠ .free := by
  intro hfree
  obtain ⟨hstate, -⟩ := h
  rw [hfree] at hstate
  exact hlatch hstate.2.2.2.2

/-- The FREE record is in law with every table. -/
theorem contextInLaw_free (profiles : Table 6 Profile) : ContextInLaw profiles Context.free :=
  ⟨⟨rfl, rfl, rfl, rfl, rfl⟩, fun _ h => by cases h⟩

/-- The record BIND leaves is in law with every table (R16). -/
theorem contextInLaw_bound (profiles : Table 6 Profile) (k : Key) (variant : BitVec 1) (mode : SelectionMode)
    (c : Context) : ContextInLaw profiles (c.bound k variant mode) :=
  ⟨⟨rfl, rfl, rfl⟩, fun _ h => by cases h⟩

/-! ### What an event keeps of a record -/

/-- What every operation on a record that is in use keeps, from one Profile Table to the next: its key, the canonical form
of its latch, the law of its state, and its quota and budget within their bounds. -/
structure ContextStep (before after : Table 6 Profile) (c c' : Context) : Prop where
  key : c'.key = c.key
  latch : Table.wf c.latch → Table.wf c'.latch
  law : c.state ≠ .free → ContextInLaw before c → ContextInLaw after c'
  budget : c.quota ≤ 64 ∧ c.budget ≤ c.quota → c'.quota ≤ 64 ∧ c'.budget ≤ c'.quota

namespace ContextStep

variable {before between after profiles : Table 6 Profile} {c c' c'' : Context}

theorem refl (profiles : Table 6 Profile) (c : Context) : ContextStep profiles profiles c c :=
  ⟨rfl, id, fun _ h => h, id⟩

theorem trans (h : ContextStep before between c c') (h' : ContextStep between after c' c'') :
    ContextStep before after c c'' where
  key := h'.key.trans h.key
  latch := h'.latch ∘ h.latch
  law := fun hstate hlaw => by
    have hlaw' := h.law hstate hlaw
    refine h'.law (fun hfree => hstate ?_) hlaw'
    rw [free_iff_of_inLaw hlaw, ← h.key, ← free_iff_of_inLaw hlaw', hfree]
  budget := h'.budget ∘ h.budget

/-- Latching changes the latch alone. -/
theorem latchKind (k : ContextKind) (detail : List Word) (c : Context) :
    ContextStep profiles profiles c (c.latchKind k detail) where
  key := by simp
  latch := c.latchKind_wf k detail
  law := fun hstate hlaw => by
    have hkept : (c.latchKind k detail).state ≠ .free := by simpa using hstate
    rw [contextInLaw_iff_of_not_free hstate] at hlaw
    rw [contextInLaw_iff_of_not_free hkept]
    simpa using hlaw
  budget := by simp

/-- Counting changes the counters alone. -/
theorem count (f : ContextCounters → ContextCounters) (c : Context) : ContextStep profiles profiles c (c.count f) :=
  ⟨rfl, id, fun _ h => h, id⟩

/-! #### SAMPLE frames (chapter 6) -/

theorem noteGap (d : Nat) (q : Byte) (c : Context) : ContextStep profiles profiles c (c.noteGap d q) := by
  unfold Context.noteGap
  split
  · exact refl _ _
  · exact (count _ c).trans (latchKind _ _ _)

theorem accept (q : Byte) (c : Context) : ContextStep profiles profiles c (c.accept q) :=
  ⟨rfl, id, fun _ h => h, id⟩

theorem noteMalformed (n : Nat) (e : Encoding) (c : Context) : ContextStep profiles profiles c (c.noteMalformed n e) :=
  (count _ c).trans (latchKind _ _ _)

theorem discard (r : DiscardReason) (c : Context) : ContextStep profiles profiles c (c.discard r) :=
  (count _ c).trans (latchKind _ _ _)

theorem dropBudget (c : Context) : ContextStep profiles profiles c c.dropBudget :=
  (count _ c).trans (latchKind _ _ _)

theorem dropQueue (c : Context) : ContextStep profiles profiles c c.dropQueue :=
  (count _ c).trans (latchKind _ _ _)

/-- A MEASURE frame spends the budget, never beyond 0. -/
theorem afterMeasure (c : Context) : ContextStep profiles profiles c c.afterMeasure where
  key := rfl
  latch := id
  law := fun _ h => h
  budget := fun ⟨hquota, hbudget⟩ => ⟨hquota, by simp only [Context.afterMeasure]; split <;> omega⟩

/-! #### Selection (chapter 4) -/

/-- R64: the choice of no profile, or of a valid one, settles a context that holds a descriptor. -/
theorem chooseProfile {chosen : Option (BitVec 6)} (hd : c.descriptor.isSome = true)
    (hvalid : ∀ p, chosen = some p → validProfile after p = true) :
    ContextStep before after c (c.chooseProfile chosen) where
  key := rfl
  latch := id
  law := fun hstate hlaw => by
    have hkept : (c.chooseProfile chosen).state ≠ .free ∧ (c.chooseProfile chosen).state ≠ .bound := by
      simp only [Context.chooseProfile, settledState]; repeat' split
      all_goals simp
    obtain ⟨hkey, -⟩ := (contextInLaw_iff_of_not_free hstate).1 hlaw
    rw [contextInLaw_iff_of_not_free hkept.1]
    refine ⟨hkey, iff_of_true hd hkept.2, ?_, ?_, hvalid⟩
    all_goals
      simp only [Context.chooseProfile, settledState]
      cases chosen <;> by_cases hstale : c.state = .stale <;> simp [hstale]
  budget := id

/-- A profile that a filter by validity leaves is valid. -/
theorem valid_of_filter {o : Option (BitVec 6)} {p : BitVec 6} (h : o.filter (validProfile after) = some p) :
    validProfile after p = true :=
  (Option.filter_eq_some_iff.1 h).2

theorem autoRun {d : Descriptor} (map : Table 8 (BitVec 6)) (hd : c.descriptor = some d) :
    ContextStep before after c (c.autoRun map after d) := by
  simp only [Context.autoRun]
  split
  case h_1 p hhit =>
    exact chooseProfile (by simp [hd]) fun q hq => valid_of_filter (hhit.trans hq)
  case h_2 =>
    refine (latchKind .selectMiss _ c).trans (chooseProfile (by simp [hd]) fun q hq => ?_)
    unfold Context.afterMiss at hq
    split at hq
    · cases hq
    · exact valid_of_filter hq

theorem fixedRun (p : BitVec 6) (hd : c.descriptor.isSome = true) :
    ContextStep before after c (c.fixedRun after p) := by
  refine chooseProfile hd fun q hq => ?_
  split at hq
  case isTrue hvalid => exact Option.some.inj hq ▸ hvalid
  case isFalse => cases hq

/-- A run looks at validity afresh wherever there is a descriptor, so it may lead from one table to another. -/
theorem selectionRun_of_descriptor (map : Table 8 (BitVec 6)) (hd : c.descriptor.isSome = true) :
    ContextStep before after c (c.selectionRun map after) := by
  obtain ⟨d, hd'⟩ := Option.isSome_iff_exists.1 hd
  simp only [Context.selectionRun, hd']
  split
  · exact autoRun map hd'
  · exact fixedRun _ hd

theorem selectionRun (map : Table 8 (BitVec 6)) (c : Context) :
    ContextStep profiles profiles c (c.selectionRun map profiles) := by
  cases hd : c.descriptor with
  | none => simpa only [Context.selectionRun, hd] using refl profiles c
  | some d => exact selectionRun_of_descriptor map (by simp [hd])

/-! #### DESCRIBE frames (chapter 3) -/

theorem countDescribe (c : Context) : ContextStep profiles profiles c c.countDescribe := count _ c

/-- The first descriptor is stored in a BOUND context, whose state becomes UNMAPPED (R42). -/
theorem storeFirst (d : Descriptor) (epoch : Byte) (remaining : BitVec 4) (tracker : Tracker)
    (hd : c.descriptor = none) :
    ContextStep profiles profiles c { c with descriptor := some d, epoch, remaining, tracker, state := .unmapped } where
  key := rfl
  latch := id
  law := fun hused hlaw => by
    obtain ⟨hkey, hdesc, -, hactive, hvalid⟩ := (contextInLaw_iff_of_not_free hused).1 hlaw
    have hbound : c.state = .bound := by simpa [hd] using hdesc
    have hnone : c.activeProfile = none := by simpa [hbound] using hactive
    exact ⟨⟨hkey, rfl, hnone⟩, hvalid⟩
  budget := id

/-- A descriptor that takes the place of another takes a STALE context out of STALE (R44, R45). -/
theorem storeAgain (epoch : Byte) (remaining : BitVec 4) (tracker : Tracker) {d : Option Descriptor}
    (hd : d.isSome = true) (hbefore : c.descriptor.isSome = true) :
    ContextStep profiles profiles c
      { c with
        descriptor := d, epoch, remaining, tracker,
        state := if c.state = .stale then settledState c.activeProfile else c.state } where
  key := rfl
  latch := id
  law := fun hused hlaw => by
    obtain ⟨hkey, hdesc, hneeds, hactive, hvalid⟩ := (contextInLaw_iff_of_not_free hused).1 hlaw
    have hnotBound : c.state ≠ .bound := hdesc.1 hbefore
    refine (contextInLaw_iff_of_not_free ?_).2 ⟨hkey, iff_of_true hd ?_, ?_, ?_, hvalid⟩ <;>
      by_cases hstale : c.state = .stale <;> simp only [hstale, if_true, if_false, settledState]
    · split <;> simp
    · exact hused
    · split <;> simp
    · exact hnotBound
    · cases c.activeProfile <;> simp
    · exact hneeds
    · intro hp; simp [hp]
    · intro hp; simpa [hstale] using hactive hp
  budget := id

theorem describe (map : Table 8 (BitVec 6)) (payload : List Word) (c : Context) :
    ContextStep profiles profiles c (c.describe map profiles payload) := by
  unfold Context.describe
  split
  · exact (countDescribe c).trans (latchKind _ _ _)
  · split
    case h_1 hnone =>
      exact ((countDescribe c).trans (storeFirst _ _ _ _ hnone)).trans
        ((latchKind _ _ _).trans (selectionRun map _))
    case h_2 old hold =>
      have hd : c.descriptor.isSome = true := by simp [hold]
      split
      · exact (countDescribe c).trans (storeAgain _ _ _ hd hd)
      · exact ((countDescribe c).trans (count _ _)).trans
          ((storeAgain (c := c.countDescribe.count _) _ _ _ rfl hd).trans
            ((latchKind _ _ _).trans (selectionRun map _)))

/-! #### Commands on one context (chapter 1) -/

/-- SET-CONTEXT with values in their ranges stores a quota of at most 64, and the budget with it (R18, R19). -/
theorem storeSelected {w : SetContextWords} (hok : w.ok = true) (c : Context) :
    ContextStep profiles profiles c (w.store c) where
  key := rfl
  latch := id
  law := fun _ h => h
  budget := fun hwithin => by
    have hquota : w.selects 2 = true → w.quota.toNat ≤ 64 := by
      intro hsel
      simp only [SetContextWords.ok, Bool.and_eq_true, Bool.or_eq_true, Bool.not_eq_true', decide_eq_true_eq] at hok
      obtain ⟨⟨⟨⟨⟨⟨-, h2⟩, -⟩, -⟩, -⟩, -⟩, -⟩ := hok
      exact h2.resolve_left (by simp [hsel])
    simp only [SetContextWords.store]
    by_cases hsel : w.selects 2 = true
    · simpa [hsel] using hquota hsel
    · simpa [hsel] using hwithin

theorem applySetContext {w : SetContextWords} (hok : w.ok = true) (map : Table 8 (BitVec 6)) (c : Context) :
    ContextStep profiles profiles c (w.apply map profiles c) := by
  simp only [SetContextWords.apply]
  split
  · exact (storeSelected hok c).trans (selectionRun map _)
  · exact storeSelected hok c

/-- R20, R21: the held flag of a context in use is no part of its law. -/
theorem setHeld (held : Bool) (c : Context) : ContextStep profiles profiles c { c with held := held } where
  key := rfl
  latch := id
  law := fun hused hlaw =>
    (contextInLaw_iff_of_not_free (c := { c with held := held }) hused).2 ((contextInLaw_iff_of_not_free hused).1 hlaw)
  budget := id

/-- R175: the latch of a context in use is no part of its law. -/
theorem setLatch {l : Latch} (hl : Table.wf c.latch → Table.wf l) :
    ContextStep profiles profiles c { c with latch := l } where
  key := rfl
  latch := hl
  law := fun hused hlaw =>
    (contextInLaw_iff_of_not_free (c := { c with latch := l }) hused).2 ((contextInLaw_iff_of_not_free hused).1 hlaw)
  budget := id

/-! #### Work at a cycle mark (chapters 2, 3, 6) and the loss of the field link (R24) -/

theorem superviseSilence (c : Context) : ContextStep profiles profiles c c.superviseSilence := by
  unfold Context.superviseSilence
  split
  · exact refl _ _
  · have stepped (count : BitVec 4) (reported : Bool) :
        ContextStep profiles profiles c { c with silenceCount := count, silentReported := reported } :=
      ⟨rfl, id, fun _ h => h, id⟩
    split
    · exact (stepped _ _).trans (latchKind _ _ _)
    · exact stepped _ _

/-- A context that turns STALE holds a descriptor, and keeps its profile (R49). -/
theorem countDown (c : Context) : ContextStep profiles profiles c c.countDown := by
  unfold Context.countDown
  split
  case isTrue hturns =>
    have hd : c.descriptor.isSome = true := by
      simp only [Context.turnsStale, Context.counted, Bool.and_eq_true] at hturns
      obtain ⟨⟨⟨hd, -⟩, -⟩, -⟩ := hturns
      exact hd
    have turned : ContextStep profiles profiles c { c with remaining := 0, state := .stale } := by
      refine ⟨rfl, id, fun hused hlaw => ?_, id⟩
      obtain ⟨hkey, -, -, -, hvalid⟩ := (contextInLaw_iff_of_not_free hused).1 hlaw
      exact ⟨⟨hkey, hd⟩, hvalid⟩
    exact turned.trans (latchKind _ _ _)
  case isFalse =>
    split
    · exact ⟨rfl, id, fun _ h => h, id⟩
    · exact refl _ _

theorem reload (c : Context) : ContextStep profiles profiles c c.reload :=
  ⟨rfl, id, fun _ h => h, fun ⟨hquota, _⟩ => ⟨hquota, le_refl _⟩⟩

theorem loseLink (c : Context) : ContextStep profiles profiles c c.loseLink := by
  unfold Context.loseLink
  split
  · exact refl _ _
  · refine ⟨rfl, id, fun hused hlaw => ?_, id⟩
    obtain ⟨hkey, -⟩ := (contextInLaw_iff_of_not_free hused).1 hlaw
    exact ⟨⟨hkey, rfl, rfl⟩, fun _ h => by cases h⟩

/-! #### The repair at a commit (R87, R88) -/

/-- A context without a profile is in law with every table it is in law with one. -/
theorem of_no_profile (hnone : c.activeProfile = none) : ContextStep before after c c :=
  ⟨rfl, id, fun _ ⟨hstate, _⟩ => ⟨hstate, fun p hp => by rw [hnone] at hp; cases hp⟩, id⟩

theorem loseProfile (c : Context) : ContextStep before after c c.loseProfile where
  key := rfl
  latch := id
  law := fun hused hlaw => by
    obtain ⟨hkey, hdesc, -, -, -⟩ := (contextInLaw_iff_of_not_free hused).1 hlaw
    have hlost : c.loseProfile.state ≠ .free ∧ c.loseProfile.state ≠ .active
        ∧ (c.loseProfile.state = .bound ↔ c.state = .bound) := by
      simp only [Context.loseProfile]
      cases hs : c.state <;> simp_all
    obtain ⟨hnotFree, hnotActive, hbound⟩ := hlost
    refine (contextInLaw_iff_of_not_free hnotFree).2 ⟨hkey, ?_, fun h => absurd h hnotActive, ?_, ?_⟩
    · rw [Ne, hbound]; exact hdesc
    · simp [Context.loseProfile]
    · simp [Context.loseProfile]
  budget := id

theorem giveFixed (q : BitVec 6) (hnone : c.activeProfile = none) : ContextStep before after c (c.giveFixed after q) := by
  unfold Context.giveFixed
  split
  case isTrue hgives =>
    simp only [Bool.and_eq_true] at hgives
    obtain ⟨⟨hd, -⟩, hvalid⟩ := hgives
    exact chooseProfile hd fun p hp => Option.some.inj hp ▸ hvalid
  case isFalse => exact of_no_profile hnone

/-- A run of a context without a profile may lead from one table to another. -/
theorem selectionRun_of_no_profile (map : Table 8 (BitVec 6)) (hnone : c.activeProfile = none) :
    ContextStep before after c (c.selectionRun map after) :=
  (of_no_profile hnone).trans (selectionRun map c)

end ContextStep

/-- A valid profile that a commit does not retire is valid after it (R86, R87). -/
theorem validProfile_applyStaged {staging : List Staged} {t : Table 6 Profile} {p : BitVec 6}
    (hvalid : validProfile t p = true) (hkept : ∀ e ∈ staging, e.target = p → e.record ≠ none) :
    validProfile (applyStaged staging t) p = true := by
  induction staging generalizing t with
  | nil => exact hvalid
  | cons e rest ih =>
    obtain ⟨he, hrest⟩ := List.forall_mem_cons.1 hkept
    refine ih (t := match e.record with | some r => Table.put e.target r t | none => Table.erase e.target t) ?_ hrest
    cases hr : e.record with
    | none =>
      have hother : e.target ≠ p := fun h => he h hr
      simpa [validProfile, Table.get_erase, hother] using hvalid
    | some r =>
      by_cases hp : e.target = p
      · simp [validProfile, Table.get_put, hp]
      · simpa [validProfile, Table.get_put, hp] using hvalid

/-- The repair takes a record from the table before the commit to the one after it. -/
theorem ContextStep.repair (s : State) (c : Context) :
    ContextStep s.profiles (applyStaged s.staging s.profiles) c (s.repair c).context := by
  unfold State.repair repairContext
  split
  case h_1 p hp =>
    split
    case isTrue =>
      refine trans (loseProfile (after := applyStaged s.staging s.profiles) c) (trans ?_ (latchKind _ _ _))
      split
      · exact selectionRun s.selectionMap _
      · exact giveFixed _ rfl
    case isFalse hretires =>
      refine ⟨rfl, id, fun _ ⟨hstate, hvalid⟩ => ⟨hstate, fun q hq => ?_⟩, id⟩
      obtain rfl : p = q := Option.some.inj (hp.symm.trans hq)
      refine validProfile_applyStaged (hvalid p hp) fun e he htarget hrecord => hretires ?_
      simp only [retires, hvalid p hp, Bool.true_and, List.any_eq_true]
      exact ⟨e, he, by simp [htarget, hrecord]⟩
  case h_2 hnone =>
    dsimp only
    split
    · split
      · exact selectionRun_of_no_profile _ hnone
      · exact of_no_profile hnone
    · exact giveFixed _ hnone

end Sys2Proof.Machine
end

section
/-! SUPPORT. What a step can do to the stores, said once: the changes that every event is made of (`StepLaw`), and that a
law which each of them keeps is kept by every step. Each law that a step keeps is then one `StepLaw`. -/

namespace Sys2Proof.Machine

set_option Elab.async false

open Sys2Proof.Safety

/-! ### Changes of the state -/

/-- Where a step stands in the Command Queue: between two takings of commands, or with a list of commands yet to be taken at
the head or flushed, which the stored queue no longer tells (R130, R133). -/
inductive Phase where
  | settled
  | running (cmds : List Command)

/-- A context of which an event knows that it is in use: the Stream Map names it, it is not FREE, it is held, or its latch
holds an entry (R1, R13). -/
def State.InUse (s : State) (i : Fin 32) : Prop :=
  (∃ k, s.resolve k = some i) ∨ (s.context i).state ≠ .free ∨ (s.context i).held = true ∨ (s.context i).latch ≠ []

/-- A law of the stores that every change a step is made of keeps, with what the step knows when it makes the change. A
change of stores that the law does not speak of keeps it by its very statement, which is the default of every field. -/
structure StepLaw (P : Phase → State → Prop) : Prop where
  /-- Stores that no law speaks of. -/
  bookkeeping {w s draws resetHeld part cycleSlot lastCycle marks path retryTimer retryCount retryInterval retryLimit
      scan} :
    P w s → P w
      { s with
        draws := draws, resetHeld := resetHeld, part := part, cycleSlot := cycleSlot, lastCycle := lastCycle,
        marks := marks, path := path, retryTimer := retryTimer, retryCount := retryCount,
        retryInterval := retryInterval, retryLimit := retryLimit, scan := scan } := by intros; assumption
  partLatch {w s l} : P w s → (Table.wf s.partLatch → Table.wf l) → P w { s with partLatch := l }
    := by intros; assumption
  /-- R180: a link keeps its state or comes up. -/
  setLink {w s p l} : P w s → ((s.link p).up = true → l.up = true) → P w (s.setLink p l)
    := by intro w s p l h _; cases p <;> exact h
  fieldDown {w s} : P w s → P w { s with fieldLink := {}, fieldTx := none } := by intros; assumption
  controlDown {w s} : P w s → P w { s with controlLink := {}, controlTx := none } := by intros; assumption
  fieldTx {w s x} : P w s → (x.isSome = true → s.fieldLink.up = true) → P w { s with fieldTx := x }
    := by intros; assumption
  controlTx {w s x} : P w s → (x.isSome = true → s.controlLink.up = true) → P w { s with controlTx := x }
    := by intros; assumption
  passQueues {w s up down} : P w s → up.length ≤ max 8 s.upQueue.length → down.length ≤ max 8 s.downQueue.length →
    P w { s with upQueue := up, downQueue := down } := by intros; assumption
  measures {w s queue n} : P w s → queue.length ≤ max 32 s.measureQueue.length → n ≤ max 4 s.measuresSincePass →
    P w { s with measureQueue := queue, measuresSincePass := n } := by intros; assumption
  sendOldest {w s} : P w s → P w { s with reports := sendOldest s.reports } := by intros; assumption
  unsendAll {w s} : P w s → P w { s with reports := unsendAll s.reports } := by intros; assumption
  dropReports {w s n} : P w s → P w { s with reports := s.reports.drop n } := by intros; assumption
  /-- A report without a reservation (R138, R174). -/
  queueReport {s b} : P .settled s → s.reportLoad < 16 → P .settled (queueReport b s) := by intros; assumption
  enterRecent {w s tag code} : P w s → (tag, code) ∉ s.recent → P w { s with recent := enterRecent tag code s.recent }
    := by intros; assumption
  clearReports {w s} : P w s → P w { s with recent := [], reports := [], nextReportSeq := 0 } := by intros; assumption
  setContext {w s i c} : P w s → s.InUse i → ContextStep s.profiles s.profiles (s.context i) c → P w (s.setContext i c)
    := by intros; assumption
  mapContexts {w s f} : P w s → (∀ c, ContextStep s.profiles s.profiles c (f c)) →
    (∀ c, c.state = .free → ContextInLaw s.profiles c → ContextInLaw s.profiles (f c)) → P w (s.mapContexts f)
    := by intros; assumption
  /-- R16. -/
  bindContext {w s i k variant mode} : P w s → (s.context i).state = .free → s.resolve k = none →
    P w (State.setContext i ((s.context i).bound k variant mode) { s with streamMap := Table.put k.index i s.streamMap })
    := by intros; assumption
  /-- R17. -/
  unbindContext {w s i} : P w s → (s.context i).state ≠ .free →
    P w
      (State.setContext i Context.free
        { s with
          streamMap :=
            match (s.context i).key with
            | some k => Table.erase k.index s.streamMap
            | none => s.streamMap }) := by intros; assumption
  selectionMap {w s map} : P w s → (Table.wf s.selectionMap → Table.wf map) → P w { s with selectionMap := map }
    := by intros; assumption
  stage {w s e} : P w s → stagingRoom e.target s.staging = true → P w { s with staging := stageRecord e s.staging }
    := by intros; assumption
  unstage {w s l} : P w s → l.Sublist s.staging → P w { s with staging := l } := by intros; assumption
  /-- R128: a command that waits behind others. -/
  waitBehind {s c} : P .settled s → s.commandQueue ≠ [] → s.commandQueue.length < 4 → s.reportLoad < 16 →
    P .settled { s with reservations := s.reservations + 1, commandQueue := s.commandQueue ++ [c] }
    := by intros; assumption
  /-- R128: a command that meets an empty queue. -/
  takeAtOnce {s c} : P .settled s → s.commandQueue = [] → s.reportLoad < 16 →
    P (.running [c]) { s with reservations := s.reservations + 1 } := by intros; assumption
  /-- While commands are taken, the stored queue is not read. -/
  storeQueue {l s queue executing} : P (.running l) s →
    P (.running l) { s with commandQueue := queue, executing := executing } := by intros; assumption
  /-- R131: a command's final report, from its own reservation. -/
  report {c l s o stage data} : P (.running (c :: l)) s → P (.running l) (queueFinal c o stage data s)
    := by intros; assumption
  drained {s} : P (.running []) s → s.commandQueue = [] → s.executing = false → P .settled s := by intros; assumption
  /-- R85. -/
  commitStays {c l s} : P (.running (c :: l)) s → c.code = .profileCommit →
    P .settled { s with commitPending := true, commandQueue := c :: l, executing := true } := by intros; assumption
  /-- R148. -/
  captureStays {c l s k} : P (.running (c :: l)) s → c.code = .capture → targetContext c.target = some k.context →
    P .settled { s with capture := some k, commandQueue := c :: l, executing := true } := by intros; assumption
  /-- R149 to R151: a running capture goes on at its context. -/
  captureGoesOn {s k k'} : P .settled s → s.capture = some k → k'.context = k.context →
    P .settled { s with capture := some k' } := by intros; assumption
  /-- R155: the capture at the head ends. -/
  captureEnds {s k} : P .settled s → s.capture = some k → P (.running s.commandQueue) { s with capture := none }
    := by intros; assumption
  /-- R91: the pending commit at the head is cancelled. -/
  commitCancelled {s} : P .settled s → s.commitPending = true →
    P (.running s.commandQueue) { s with commitPending := false } := by intros; assumption
  /-- R86: the pending commit at the head is applied. -/
  commitApplied {s} : P .settled s → s.commitPending = true →
    P (.running s.commandQueue) ((commitTable s).mapContexts fun c => (s.repair c).context) := by intros; assumption
  discardWork {s} : P .settled s → P .settled (discardWork s) := by intros; assumption
  freeContexts {s} : P .settled s → P .settled (freeContexts s) := by intros; assumption
  resetFull {s tag} : P .settled s → P .settled (resetFull tag s) := by intros; assumption
  powerOn {s} : P .settled s → P .settled (powerOnState s) := by intros; assumption

/-! ### Heads of the queue -/

/-- What a command at the head makes of the state when it ends, and when it stays. -/
def HeadResult.Leaves (ends stays : State → Prop) : HeadResult → Prop
  | .ends _ _ s => ends s
  | .stays s => stays s

/-! ### What the handling of a frame leaves alone -/

@[simp] theorem conditionThrough_commandQueue (i : Fin 32) (index : BitVec 6) (p : Profile) (stale gap : Bool)
    (raws : List Int) (s : State) : (conditionThrough i index p stale gap raws s).commandQueue = s.commandQueue := by
  unfold conditionThrough
  dsimp only
  repeat' split
  all_goals rfl

@[simp] theorem deliverSample_commandQueue (i : Fin 32) (gap : Bool) (raws : List Int) (s : State) :
    (deliverSample i gap raws s).commandQueue = s.commandQueue := by
  unfold deliverSample
  split
  · rfl
  · split
    · exact conditionThrough_commandQueue ..
    · rfl

@[simp] theorem reportCapture_resolve (o : CommandOutcome) (stage : Byte) (mean field : Int) (k : Capture) (s : State)
    (key : Key) : (reportCapture o stage mean field k s).resolve key = s.resolve key := by
  unfold reportCapture finishHead
  split <;> rfl

namespace StepLaw

variable {P : Phase → State → Prop} (L : StepLaw P) {w : Phase} {s : State}
include L

/-! ### Shared operations -/

theorem countPart (f : PartCounters → PartCounters) (h : P w s) : P w (countPart f s) := L.bookkeeping h

theorem latchPart (k : PartKind) (detail : List Word) (h : P w s) : P w (latchPart k detail s) :=
  L.partLatch h latchAdd_wf

/-- R185: a choice of the arbiter sends the oldest UNSENT report or the head of one of its queues. -/
theorem arbitrate (h : P w s) : P w (arbitrate s) := by
  unfold Machine.arbitrate
  split
  case isTrue => exact h
  case isFalse hidle =>
    have hup : s.controlLink.up = true := by
      simp only [State.linkUp, State.link_control, Bool.or_eq_true, Bool.not_eq_true', Bool.and_eq_false_iff,
        Bool.not_eq_false'] at hidle
      simpa using fun hdown => hidle (.inr (.inr hdown))
    have pass {p rest} (hq : s.upQueue = p :: rest) :
        P w { s with upQueue := rest, measuresSincePass := 0, controlTx := some (.pass p) } :=
      L.controlTx (L.measures (L.passQueues h (by simp [hq]) le_sup_right) le_sup_right (Nat.zero_le _)) fun _ => hup
    have measure {m ms} (hq : s.measureQueue = m :: ms) :
        P w
          { s with
            measureQueue := ms
            measuresSincePass := min 4 (s.measuresSincePass + 1)
            controlTx := some (.measure m.toWords) } :=
      have hshort : ms.length ≤ max 32 s.measureQueue.length := by simp [hq]
      have hcount : min 4 (s.measuresSincePass + 1) ≤ max 4 s.measuresSincePass := by omega
      L.controlTx (L.measures h hshort hcount) fun _ => hup
    split
    case h_1 r _ => exact L.bookkeeping (L.controlTx (L.sendOldest h) fun _ => hup)
    case h_2 =>
      split
      case h_1 hq _ => exact pass hq
      case h_2 hq hm =>
        split
        · exact pass hq
        · exact measure hm
      case h_3 _ hm => exact measure hm
      case h_4 => exact h

/-- R184: a choice of the field transmitter sends the copy in the slot or the head of its queue. -/
theorem fieldChoose (h : P w s) : P w (fieldChoose s) := by
  unfold Machine.fieldChoose
  split
  case isTrue => exact h
  case isFalse hidle =>
    have hup : s.fieldLink.up = true := by
      simp only [State.linkUp, State.link_field, Bool.or_eq_true, Bool.not_eq_true', Bool.and_eq_false_iff,
        Bool.not_eq_false'] at hidle
      simpa using fun hdown => hidle (.inr (.inr hdown))
    split
    case h_1 n _ => exact L.bookkeeping (L.fieldTx (x := some (.cycleCopy n)) h fun _ => hup)
    case h_2 =>
      split
      case h_1 p rest hq =>
        have hpass : P w { s with downQueue := rest } := L.passQueues h le_sup_right (by simp [hq])
        exact L.fieldTx hpass fun _ => hup
      case h_2 => exact h

/-! ### The Command Queue (R130 to R134) -/

/-- The commands of a list are flushed one after another (R133). -/
theorem foldFlushed {cmds : List Command} (h : P (.running cmds) s) :
    P (.running []) (cmds.foldl (fun s c => queueFinal c .flushed 0 [] s) s) := by
  induction cmds generalizing s with
  | nil => exact h
  | cons c rest ih => exact ih (L.report h)

theorem flush {cmds : List Command} (h : P (.running cmds) s) : P .settled (flush cmds s) := by
  have hempty : Machine.flush cmds s = { Machine.flush cmds s with commandQueue := [], executing := false } := by
    rw [flush_eq]
  exact L.drained (L.foldFlushed (L.storeQueue h)) (by rw [hempty]) (by rw [hempty])

/-! ### Commands at the head, on one context (chapter 1) -/

section
variable {cmd : Command} {stays : State → Prop}

theorem takeBind (h : P w s) : (takeBind cmd s).Leaves (P w) stays := by
  unfold Machine.takeBind
  split
  case h_1 => exact h
  case h_2 i _ =>
    split
    case h_1 =>
      dsimp only
      split
      · exact h
      split
      · exact h
      split
      · exact h
      case isFalse hfree hnew =>
        exact L.bindContext h (not_not.1 hfree) (by simpa using hnew)
    case h_2 => exact h

theorem takeUnbind (h : P w s) : (takeUnbind cmd s).Leaves (P w) stays := by
  unfold Machine.takeUnbind
  split
  case h_1 => exact h
  case h_2 i _ =>
    split
    · exact h
    case isFalse hused => exact L.unbindContext h hused

/-- A command that changes the record of a context in use. -/
theorem setUsed {i : Fin 32} {c : Context} (h : P w s) (hused : (s.context i).state ≠ .free)
    (hstep : ContextStep s.profiles s.profiles (s.context i) c) : P w (s.setContext i c) :=
  L.setContext h (.inr (.inl hused)) hstep

theorem takeSetContext (h : P w s) : (takeSetContext cmd s).Leaves (P w) stays := by
  unfold Machine.takeSetContext
  split
  case h_1 => exact h
  case h_2 i _ =>
    split
    case h_1 =>
      dsimp only
      split
      · exact h
      split
      · exact h
      case isFalse hok hused =>
        exact L.setUsed h hused (.applySetContext (by simpa using hok) _ _)
    case h_2 => exact h

theorem takeHold (h : P w s) : (takeHold cmd s).Leaves (P w) stays := by
  unfold Machine.takeHold
  split
  case h_1 => exact h
  case h_2 i _ =>
    dsimp only
    split
    · exact h
    case isFalse hchecks =>
      have hused : (s.context i).state ≠ .free := fun hfree => hchecks (by simp [hfree])
      exact L.setUsed h hused (.setHeld true _)

theorem takeResume (h : P w s) : (takeResume cmd s).Leaves (P w) stays := by
  unfold Machine.takeResume
  split
  case h_1 => exact h
  case h_2 i _ =>
    dsimp only
    split
    · exact h
    case isFalse hheld => exact L.setContext h (.inr (.inr (.inl (by simpa using hheld)))) (.setHeld false _)

/-- Runs over the contexts that hold a descriptor change no FREE one (R69, R73). -/
theorem runContexts {qualifies : Context → Bool} (h : P w s) : P w (runContexts qualifies s) := by
  refine L.mapContexts h (fun c => ?_) fun c hfree hlaw => ?_
  · split
    · exact .selectionRun _ _
    · exact .refl _ _
  · have hrun : c.selectionRun s.selectionMap s.profiles = c := by
      simp only [Context.selectionRun, descriptor_of_free hlaw hfree]
    rwa [hrun, ite_self]

theorem takeReselect (h : P w s) : (takeReselect cmd s).Leaves (P w) stays := by
  unfold Machine.takeReselect
  split
  case h_1 i _ =>
    unfold Machine.reselectOne
    dsimp only
    split
    · exact h
    case isFalse hchecks =>
      have hused : (s.context i).state ≠ .free := fun hfree => hchecks (by simp [hfree])
      exact L.setUsed h hused (.selectionRun _ _)
  case h_2 =>
    split
    · exact L.runContexts h
    · exact h

omit L in
theorem takeContextRead (h : P w s) : (takeContextRead cmd s).Leaves (P w) stays := by
  unfold Machine.takeContextRead
  split <;> exact h

theorem takeCountersRead (h : P w s) : (takeCountersRead cmd s).Leaves (P w) stays := by
  unfold Machine.takeCountersRead
  split
  case h_1 clear _ =>
    split
    case h_1 i _ =>
      unfold Machine.countersReadOne
      dsimp only
      split
      · exact h
      split
      · exact h
      case isFalse hused =>
        simp only [HeadResult.Leaves]
        split
        · exact L.setUsed h hused (.count (fun _ => {}) _)
        · exact h
    case h_2 =>
      unfold Machine.countersReadAll
      split
      · split
        · exact h
        · simp only [HeadResult.Leaves]
          split
          · exact L.bookkeeping h
          · exact h
      · exact h
  case h_2 => exact h

/-! ### Commands at the head, on the tables and the part (chapters 4, 5, 7) -/

theorem takeMapWrite (h : P w s) : (takeMapWrite cmd s).Leaves (P w) stays := by
  unfold Machine.takeMapWrite
  split
  case h_1 =>
    dsimp only
    split
    case h_1 => exact h
    case h_2 =>
      have hwritten (start : Nat) (entries : List Word) :
          P w { s with selectionMap := writeEntries start entries s.selectionMap } :=
        L.selectionMap h writeEntries_wf
      split
      · exact h
      · split
        · exact L.runContexts (hwritten _ _)
        · exact hwritten _ _
  case h_2 => exact h

omit L in
theorem takeMapRead (h : P w s) : (takeMapRead cmd s).Leaves (P w) stays := by
  unfold Machine.takeMapRead
  split
  · split <;> exact h
  · exact h

theorem stageAt {p : BitVec 6} {record : Option Profile} (h : P w s) : (stageAt p record s).Leaves (P w) stays := by
  unfold Machine.stageAt
  split
  · exact h
  case isFalse hroom => exact L.stage h (by simpa using hroom)

theorem takeProfileStage (h : P w s) : (takeProfileStage cmd s).Leaves (P w) stays := by
  unfold Machine.takeProfileStage
  split
  case h_1 =>
    split
    · exact h
    split
    · exact L.stageAt h
    split
    · exact h
    · exact L.stageAt h
  case h_2 => exact h

theorem takeProfileDiscard (h : P w s) : (takeProfileDiscard cmd s).Leaves (P w) stays := by
  unfold Machine.takeProfileDiscard
  split
  case h_1 =>
    split
    · exact h
    · refine L.unstage h ?_
      split
      · exact List.nil_sublist _
      · exact List.filter_sublist
  case h_2 => exact h

omit L in
theorem takeProfileRead (h : P w s) : (takeProfileRead cmd s).Leaves (P w) stays := by
  unfold Machine.takeProfileRead
  split
  case h_1 =>
    split
    · exact h
    · dsimp only
      split
      · exact h
      · split <;> exact h
  case h_2 => exact h

theorem takeSetPart (h : P w s) : (takeSetPart cmd s).Leaves (P w) stays := by
  unfold Machine.takeSetPart
  split
  case h_1 =>
    split
    · exact h
    · exact L.bookkeeping h
  case h_2 => exact h

end

/-! ### The command at the head (R130) -/

theorem takeProfileCommit {cmd : Command} {rest : List Command} (hcode : cmd.code = .profileCommit)
    (h : P (.running (cmd :: rest)) s) :
    (takeProfileCommit cmd s).Leaves (P (.running (cmd :: rest)))
      fun s' => P .settled { s' with commandQueue := cmd :: rest, executing := true } := by
  unfold Machine.takeProfileCommit
  split
  · exact h
  split
  · exact h
  · exact L.commitStays (s := s) h hcode

theorem takeCapture {cmd : Command} {rest : List Command} (hcode : cmd.code = .capture)
    (h : P (.running (cmd :: rest)) s) :
    (takeCapture cmd s).Leaves (P (.running (cmd :: rest)))
      fun s' => P .settled { s' with commandQueue := cmd :: rest, executing := true } := by
  unfold Machine.takeCapture
  split
  case h_1 => exact h
  case h_2 i htarget =>
    split
    case h_1 =>
      dsimp only
      split
      · exact h
      split
      · exact h
      split
      · exact h
      · exact L.captureStays (s := s) h hcode htarget
    case h_2 => exact h

/-- R130: a command that ends leaves the law with itself still to be reported; one that stays leaves it settled. -/
theorem takeHead {cmd : Command} {rest : List Command} (h : P (.running (cmd :: rest)) s) :
    (takeHead cmd s).Leaves (P (.running (cmd :: rest)))
      fun s' => P .settled { s' with commandQueue := cmd :: rest, executing := true } := by
  unfold Machine.takeHead
  cases hcode : cmd.code with
  | nop => exact h
  | bind => exact L.takeBind h
  | unbind => exact L.takeUnbind h
  | setContext => exact L.takeSetContext h
  | hold => exact L.takeHold h
  | resume => exact L.takeResume h
  | reselect => exact L.takeReselect h
  | contextRead => exact takeContextRead h
  | countersRead => exact L.takeCountersRead h
  | mapWrite => exact L.takeMapWrite h
  | mapRead => exact takeMapRead h
  | profileStage => exact L.takeProfileStage h
  | profileDiscard => exact L.takeProfileDiscard h
  | profileCommit => exact L.takeProfileCommit hcode h
  | profileRead => exact takeProfileRead h
  | setPart => exact L.takeSetPart h
  | capture => exact L.takeCapture hcode h

theorem runQueue {cmds : List Command} (h : P (.running cmds) s) : P .settled (runQueue cmds s) := by
  induction cmds generalizing s with
  | nil => exact L.drained (L.storeQueue h) rfl rfl
  | cons c rest ih =>
    have hhead := L.takeHead h
    unfold Machine.runQueue
    split
    case h_1 s' hstays => rwa [hstays] at hhead
    case h_2 o data s' hends =>
      rw [hends] at hhead
      split
      · exact ih (L.report hhead)
      · exact L.flush (L.report hhead)

theorem resumeQueue (o : CommandOutcome) (h : P (.running s.commandQueue) s) : P .settled (resumeQueue o s) := by
  unfold Machine.resumeQueue
  split
  · exact L.runQueue h
  · exact L.flush h

/-- R131: the report of the executing command leaves the commands behind it to be taken. -/
theorem finishHead {o : CommandOutcome} {stage : Byte} {data : List Word} (h : P (.running s.commandQueue) s) :
    P (.running (finishHead o stage data s).commandQueue) (finishHead o stage data s) := by
  unfold Machine.finishHead
  split
  case h_1 => exact h
  case h_2 c rest hq =>
    rw [hq] at h
    exact L.report (L.storeQueue h)

/-! ### Captures and commits (R86, R91, R155) -/

theorem reportCapture {o : CommandOutcome} {stage : Byte} {mean field : Int} {k k' : Capture}
    (h : P .settled s) (hcapture : s.capture = some k') :
    P (.running (reportCapture o stage mean field k s).commandQueue) (reportCapture o stage mean field k s) :=
  L.finishHead (s := { s with capture := none }) (L.captureEnds (s := s) h hcapture)

theorem endCapture {o : CommandOutcome} {k k' : Capture} (h : P .settled s) (hcapture : s.capture = some k') :
    P .settled (endCapture o k s) :=
  L.resumeQueue o (L.reportCapture h hcapture)

theorem endCaptureOn (i : Fin 32) (o : CommandOutcome) (h : P .settled s) : P .settled (endCaptureOn i o s) := by
  unfold Machine.endCaptureOn
  split
  case h_1 k hk =>
    split
    · exact L.endCapture h hk
    · exact h
  case h_2 => exact h

theorem abortCommit (hpending : s.commitPending = true) (h : P .settled s) : P .settled (abortCommit s) :=
  L.resumeQueue .aborted (L.finishHead (s := { s with commitPending := false }) (L.commitCancelled (s := s) h hpending))

theorem applyCommit (hpending : s.commitPending = true) (h : P .settled s) : P .settled (applyCommit s) :=
  L.resumeQueue .done (L.finishHead (L.commitApplied h hpending))

/-! ### The arrival of a COMMAND frame (R121 to R142) -/

theorem refuse (payload : List Word) (r : RefusalReason) (h : P w s) : P w (refuse payload r s) :=
  L.latchPart _ _ (L.countPart _ h)

theorem enterQueue {c : Command} (hroom : s.commandQueue.length < 4) (hload : s.reportLoad < 16)
    (hnew : (c.tag, c.code.toByte) ∉ s.recent) (h : P .settled s) : P .settled (enterQueue c s) := by
  have hentered (part : PartCounters) :
      P .settled { s with recent := Machine.enterRecent c.tag c.code.toByte s.recent, part := part } :=
    L.bookkeeping (L.enterRecent h hnew)
  unfold Machine.enterQueue
  dsimp only
  split
  case isTrue hempty => exact L.runQueue (L.takeAtOnce (hentered _) hempty hload)
  case isFalse hbusy => exact L.waitBehind (hentered _) hbusy hroom hload

theorem takeAck (n : Word) (h : P .settled s) : P .settled (takeAck n s) := by
  unfold Machine.takeAck
  split
  · exact L.bookkeeping (L.dropReports h)
  · exact L.latchPart _ _ h

theorem takeAbort (h : P .settled s) : P .settled (takeAbort s) := by
  unfold Machine.takeAbort
  split
  · exact h
  split
  case isTrue hpending => exact L.abortCommit hpending h
  case isFalse =>
    split
    case h_1 k hk => exact L.endCapture h hk
    case h_2 => exact h

theorem takeImmediate {tag : Byte} {i : ImmediateCode} (payload : List Word) (pathBefore : ReportPath)
    (hnew : (tag, i.toByte) ∉ s.recent) (h : P .settled s) : P .settled (takeImmediate tag i payload pathBefore s) := by
  have hentered : P .settled (enterImmediate tag i (countImmediate s)) := L.enterRecent (L.countPart _ h) hnew
  unfold Machine.takeImmediate
  cases i with
  | ackReports => exact L.takeAck _ (L.countPart _ h)
  | abort => exact L.takeAbort hentered
  | status =>
    dsimp only
    split
    case isTrue hload => exact L.queueReport hentered hload
    case isFalse => exact L.refuse _ _ h
  | resetPart =>
    dsimp only
    split
    · exact L.resetFull (L.countPart _ h)
    · exact L.latchPart _ _ (L.freeContexts (L.discardWork hentered))

theorem admission (payload : List Word) (pathBefore : ReportPath) (h : P .settled s) :
    P .settled (admission payload pathBefore s) := by
  unfold Machine.admission
  split
  case h_1 w0 target params =>
    split
    case h_1 => exact L.refuse _ _ h
    case h_2 code hcode =>
      split
      · exact L.refuse _ _ h
      split
      · exact L.bookkeeping h
      case isFalse hlisted =>
        have hnew : (tagOf w0, codeOf w0) ∉ s.recent := by simpa using hlisted
        split
        case h_1 i => exact L.takeImmediate _ _ (CommandCode.ofByte_eq_immediate hcode ▸ hnew) h
        case h_2 q =>
          split
          · exact L.refuse _ _ h
          split
          · exact L.refuse _ _ h
          case isFalse hroom hload =>
            exact L.enterQueue (by omega) (by omega) (CommandCode.ofByte_eq_queued hcode ▸ hnew) h
  case h_2 => exact L.refuse _ _ h

theorem recoverPath (h : P w s) : P w (recoverPath s) := by
  unfold Machine.recoverPath
  split
  · exact L.bookkeeping (L.unsendAll h)
  · exact h

theorem commandArrives (payload : List Word) (h : P .settled s) : P .settled (commandArrives payload s) :=
  L.admission payload _ (L.recoverPath (L.countPart _ h))

/-! ### DESCRIBE and SAMPLE frames (chapters 3, 6, 8) -/

theorem unboundTraffic (k : Key) (kind : BitVec 4) (h : P w s) : P w (unboundTraffic k kind s) := L.latchPart _ _ h

theorem describeContext {i : Fin 32} (payload : List Word) (hbound : ∃ k, s.resolve k = some i) (h : P .settled s) :
    P .settled (describeContext i payload s) := by
  have hstored := L.setContext h (.inl hbound) (.describe s.selectionMap payload (s.context i))
  unfold Machine.describeContext
  dsimp only
  split
  · exact L.endCaptureOn i .descChanged hstored
  · exact hstored

theorem conditionThrough {i : Fin 32} {index : BitVec 6} {p : Profile} {stale gap : Bool} {raws : List Int}
    (hbound : ∃ k, s.resolve k = some i) (h : P w s) : P w (conditionThrough i index p stale gap raws s) := by
  have hconverted : ContextStep s.profiles s.profiles (s.context i) ((s.context i).noteConversion p raws) := .count _ _
  unfold Machine.conditionThrough
  dsimp only
  split
  · exact L.setContext h (.inl hbound) (hconverted.trans (.dropBudget _))
  split
  · exact L.setContext h (.inl hbound) (hconverted.trans (.dropQueue _))
  case isFalse hroom =>
    refine L.setContext (L.measures (n := s.measuresSincePass) h ?_ le_sup_right) (.inl hbound)
      (hconverted.trans (.afterMeasure _))
    simp only [List.length_append, List.length_singleton]
    omega

theorem deliverSample {i : Fin 32} {gap : Bool} {raws : List Int} (hbound : ∃ k, s.resolve k = some i) (h : P w s) :
    P w (deliverSample i gap raws s) := by
  unfold Machine.deliverSample
  split
  · exact L.setContext h (.inl hbound) (.discard _ _)
  · split
    · exact L.conditionThrough hbound h
    · exact L.setContext h (.inl hbound) (.discard _ _)

/-- R154: completing a capture leaves the Staging Area, or puts a record in a place that it has. -/
theorem completeStaging (k : Capture) (h : P .settled s) : P .settled { s with staging := (k.complete s).staging } := by
  unfold Capture.complete
  split
  · exact h
  · split
    · exact h
    · split
      case isTrue hroom => exact L.stage h hroom
      case isFalse => exact h

/-- R150 to R154: the frame that completes a capture has its report queued, then its own handling, and then the commands
behind the capture are taken. -/
theorem tapAround {i : Fin 32} {gap : Bool} {raws : List Int} (hbound : ∃ k, s.resolve k = some i) (h : P .settled s) :
    P .settled (tapAround i gap raws (Machine.deliverSample i gap raws) s) := by
  unfold Machine.tapAround
  split
  case h_1 => exact L.deliverSample hbound h
  case h_2 k hk =>
    split
    case isFalse => exact L.deliverSample hbound h
    case isTrue =>
      dsimp only
      split
      case isFalse => exact L.deliverSample hbound (L.captureGoesOn h hk rfl)
      case isTrue =>
        have hstaged := L.completeStaging (k.collect raws gap) h
        refine L.resumeQueue _ ?_
        rw [deliverSample_commandQueue]
        refine L.deliverSample ?_ (L.reportCapture hstaged hk)
        simp only [reportCapture_resolve]
        exact hbound

theorem sampleContext {i : Fin 32} (q : Byte) (payload : List Word) (hbound : ∃ k, s.resolve k = some i)
    (h : P .settled s) : P .settled (sampleContext i q payload s) := by
  have haccepted (d : Nat) :
      ContextStep s.profiles s.profiles (s.context i) (((s.context i).noteGap d q).accept q) :=
    (ContextStep.noteGap d q _).trans (.accept q _)
  unfold Machine.sampleContext
  dsimp only
  split
  · exact L.setContext h (.inl hbound) (.count _ _)
  · split
    · exact L.setContext h (.inl hbound) ((haccepted _).trans (.discard _ _))
    · split
      · exact L.setContext h (.inl hbound) ((haccepted _).trans (.noteMalformed _ _ _))
      · exact L.tapAround hbound (L.setContext h (.inl hbound) (haccepted _))

theorem sampleArrives (f : Frame) (h : P .settled s) : P .settled (sampleArrives f s) := by
  unfold Machine.sampleArrives
  dsimp only
  split
  case h_1 i hi => exact L.sampleContext _ _ ⟨_, hi⟩ h
  case h_2 => exact L.unboundTraffic _ _ h

theorem describeArrives (f : Frame) (h : P .settled s) : P .settled (describeArrives f s) := by
  unfold Machine.describeArrives
  dsimp only
  split
  case h_1 i hi => exact L.describeContext _ ⟨_, hi⟩ h
  case h_2 => exact L.unboundTraffic _ _ h

/-! ### PASS and CYCLE frames (chapters 2 and 10) -/

theorem passUpArrives (words : List Word) (h : P w s) : P w (passUpArrives words s) := by
  unfold Machine.passUpArrives
  split
  · exact L.passQueues h (by simp only [List.length_append, List.length_singleton]; omega) le_sup_right
  · exact L.latchPart _ _ (L.countPart _ h)

theorem passDownArrives (words : List Word) (h : P w s) : P w (passDownArrives words s) := by
  unfold Machine.passDownArrives
  split
  · exact L.passQueues h le_sup_right (by simp only [List.length_append, List.length_singleton]; omega)
  · exact L.latchPart _ _ (L.countPart _ h)

theorem takeMark (r : Word) (h : P w s) : P w (takeMark r s) := L.bookkeeping (s := s) h

theorem cycleArrives (payload : List Word) (h : P w s) : P w (cycleArrives payload s) := by
  unfold Machine.cycleArrives
  split
  · split
    · exact L.takeMark _ h
    · split
      · exact L.countPart _ h
      split
      · exact L.takeMark _ h
      · exact L.takeMark _ (L.latchPart _ _ (L.countPart _ h))
  · exact L.countPart _ h

/-! ### The arrival of a frame (R181, R182) -/

theorem handOn (u : FrameUse) (f : Frame) (h : P .settled s) : P .settled (handOn u f s) := by
  cases u with
  | sample => exact L.arbitrate (L.sampleArrives f h)
  | describe => exact L.arbitrate (L.describeArrives f h)
  | passUp => exact L.arbitrate (L.passUpArrives _ h)
  | passDown => exact L.fieldChoose (L.passDownArrives _ h)
  | cycle => exact L.fieldChoose (L.cycleArrives _ h)
  | command => exact L.arbitrate (L.commandArrives _ h)

theorem frameArrives (p : Port) (words : List Word) (h : P .settled s) : P .settled (frameArrives p words s) := by
  unfold Machine.frameArrives
  split
  · exact h
  · have hheard : P .settled (s.setLink p { s.link p with midFrame := false }) := L.setLink h id
    dsimp only
    split
    · exact L.countPart _ hheard
    · exact L.handOn _ _ (L.countPart _ hheard)

/-! ### Links, power-on and transmissions (chapter 10) -/

theorem releaseReset (ns : Nat) (h : P .settled s) : P .settled (releaseReset ns s) := by
  unfold Machine.releaseReset
  split
  · exact L.powerOn h
  split
  · exact L.powerOn (L.bookkeeping h)
  · exact L.bookkeeping h

theorem gainLock (p : Port) (h : P w s) : P w (gainLock p s) := by
  unfold Machine.gainLock
  split
  · exact h
  · exact L.setLink h id

theorem loseLock (p : Port) (h : P w s) : P w (loseLock p s) := by
  unfold Machine.loseLock
  split
  · exact h
  · exact L.setLink h id

theorem lockHeld {p : Port} {comeUp : State → State} (hcomeUp : ∀ t, P w t → P w (comeUp t)) (h : P w s) :
    P w (lockHeld p comeUp s) := by
  unfold Machine.lockHeld
  split
  · exact hcomeUp _ (L.setLink h fun _ => rfl)
  · exact h

theorem fieldComesUp (h : P w s) : P w (fieldComesUp s) := L.fieldChoose (L.latchPart _ _ h)

theorem captureLinkDown (h : P .settled s) : P .settled (captureLinkDown s) := by
  unfold Machine.captureLinkDown
  split
  case h_1 k hk => exact L.endCapture h hk
  case h_2 => exact h

theorem fieldPortLoss (h : P w s) : P w (fieldPortLoss s) := by
  have hqueue : P w { s with fieldLink := {}, fieldTx := none, downQueue := [] } :=
    L.passQueues (L.fieldDown h) le_sup_right (Nat.zero_le _)
  have hslot : P w { s with fieldLink := {}, fieldTx := none, downQueue := [], cycleSlot := none } :=
    L.bookkeeping hqueue
  exact L.countPart _ hslot

theorem fieldLoss (h : P .settled s) : P .settled (fieldLoss s) := by
  unfold Machine.fieldLoss
  split
  · exact h
  · refine L.arbitrate (L.captureLinkDown (L.latchPart _ _ (L.mapContexts (L.fieldPortLoss h) .loseLink ?_)))
    intro c hfree hlaw
    rwa [Context.loseLink, if_pos hfree]

theorem controlPortLoss (h : P w s) : P w (controlPortLoss s) := by
  have hpass : P w { s with controlLink := {}, controlTx := none, upQueue := [] } :=
    L.passQueues (L.controlDown h) (Nat.zero_le _) le_sup_right
  have hcount : P w { s with controlLink := {}, controlTx := none, upQueue := [], measuresSincePass := 0 } :=
    L.measures hpass le_sup_right (Nat.zero_le _)
  exact L.countPart _ hcount

theorem controlLoss (h : P .settled s) : P .settled (controlLoss s) := by
  unfold Machine.controlLoss
  split
  · exact h
  · have hcleared := L.clearReports (L.discardWork (L.controlPortLoss h))
    exact L.latchPart _ _ (L.bookkeeping hcleared)

theorem endTransmission (p : Port) (h : P w s) : P w (endTransmission p s) := by
  unfold Machine.endTransmission
  split
  · split
    · exact L.fieldChoose (L.countPart _ (L.fieldTx h fun hsome => by cases hsome))
    · exact h
  · split
    · exact L.arbitrate (L.countPart _ (L.controlTx h fun hsome => by cases hsome))
    · exact h

theorem startInFrame (p : Port) (h : P w s) : P w (startInFrame p s) := by
  unfold Machine.startInFrame
  split
  · exact h
  · exact L.countPart _ (L.setLink h id)

/-! ### Work at a cycle mark (chapters 2, 3, 5, 6, 8) -/

theorem superviseSilence (h : P w s) : P w (superviseSilence s) := by
  unfold Machine.superviseSilence
  split
  · exact h
  · refine L.mapContexts (L.bookkeeping h) .superviseSilence fun c hfree hlaw => ?_
    rwa [Context.superviseSilence, if_pos (by simp [hfree])]

theorem endCaptureIfStale (before : State) (h : P .settled s) : P .settled (endCaptureIfStale before s) := by
  unfold Machine.endCaptureIfStale
  split
  case h_1 k hk =>
    split
    · exact L.endCapture h hk
    · exact h
  case h_2 => exact h

theorem countLifetimes (h : P .settled s) : P .settled (countLifetimes s) := by
  unfold Machine.countLifetimes
  split
  · exact h
  · refine L.arbitrate (L.endCaptureIfStale s (L.mapContexts (L.bookkeeping h) .countDown fun c hfree hlaw => ?_))
    have huncounted : c.counted = false := by simp [Context.counted, descriptor_of_free hlaw hfree]
    simpa [Context.countDown, Context.turnsStale, huncounted] using hlaw

theorem reloadBudgets (h : P w s) : P w (reloadBudgets s) := by
  unfold Machine.reloadBudgets
  split
  · exact h
  · exact L.mapContexts (L.bookkeeping h) .reload fun _ _ hlaw => hlaw

theorem takeCommitMark (h : P .settled s) : P .settled (takeCommitMark s) := by
  unfold Machine.takeCommitMark
  split
  · exact h
  · dsimp only
    split
    case isTrue hpending => exact L.arbitrate (L.applyCommit hpending (L.bookkeeping h))
    case isFalse => exact L.bookkeeping h

theorem captureMark {k : Capture} (hk : s.capture = some k) (h : P .settled s) : P .settled (captureMark k s) := by
  unfold Machine.captureMark
  split
  · exact L.captureGoesOn h hk rfl
  · dsimp only
    split
    · exact L.arbitrate (L.endCapture h hk)
    · exact L.captureGoesOn h hk rfl

theorem takeCaptureMark (h : P .settled s) : P .settled (takeCaptureMark s) := by
  unfold Machine.takeCaptureMark
  split
  · exact h
  · dsimp only
    split
    case h_1 k hk => exact L.captureMark hk (L.bookkeeping h)
    case h_2 => exact L.bookkeeping h

/-! ### The Report Unit (chapter 9) -/

theorem timerExpires (h : P w s) : P w (timerExpires s) := by
  unfold Machine.timerExpires
  split
  · exact h
  split
  · exact L.arbitrate (L.bookkeeping (L.unsendAll h))
  · exact L.bookkeeping h

theorem emitFrom (o : Owner) (hload : s.reportLoad < 16) (h : P .settled s) : P .settled (emitFrom o s) := by
  unfold Machine.emitFrom
  split
  case h_1 => exact h
  case h_2 kind e rest hlatch =>
    have hrest {l : Latch} (hl : l = (kind, e) :: rest) : Table.wf l → Table.wf rest := by
      rw [hl]; exact fun hwf => (List.pairwise_cons.1 hwf).2
    have hscan : P .settled { s with scan := o.next } := L.bookkeeping h
    cases o with
    | part => exact L.queueReport (L.partLatch hscan (hrest hlatch)) hload
    | context i =>
      have hlatched : (s.context i).latch ≠ [] := by
        rw [show (s.context i).latch = _ from hlatch]; exact List.cons_ne_nil _ _
      exact L.queueReport (L.setContext hscan (.inr (.inr (.inr hlatched))) (.setLatch (hrest hlatch))) hload

theorem emit (h : P .settled s) : P .settled (emit s) := by
  unfold Machine.emit
  split
  · exact h
  case isFalse hallowed =>
    have hload : s.reportLoad < 16 := by
      simp only [Bool.or_eq_true, decide_eq_true_eq, not_or] at hallowed
      omega
    split
    · exact h
    · exact L.arbitrate (L.emitFrom _ hload h)

/-! ### The step -/

omit L in
theorem live {f : State → State} (hf : P .settled (f s)) (h : P .settled s) : P .settled (s.live f) := by
  unfold State.live
  split
  · exact h
  · exact hf

/-- Every command leaves a next state in law. -/
theorem exec (c : Instr) (h : P .settled s) : ∃ t, exec c s = .next t ∧ P .settled t := by
  have frame (p : Port) (ws : List Word) : P .settled (s.live (Machine.frameArrives p ws)) :=
    live (L.frameArrives p ws h) h
  cases c with
  | powerOn ns => exact ⟨_, rfl, L.releaseReset ns h⟩
  | fieldLinkUp => exact ⟨_, rfl, live (L.lockHeld (fun _ => L.fieldComesUp) h) h⟩
  | controlLinkUp => exact ⟨_, rfl, live (L.lockHeld (fun _ => L.arbitrate) h) h⟩
  | fieldLinkLoss => exact ⟨_, rfl, live (L.fieldLoss h) h⟩
  | controlLinkLoss => exact ⟨_, rfl, live (L.controlLoss h) h⟩
  | silenceSupervision => exact ⟨_, rfl, live (L.superviseSilence h) h⟩
  | lifetimeCountdown => exact ⟨_, rfl, live (L.countLifetimes h) h⟩
  | budgetReload => exact ⟨_, rfl, live (L.reloadBudgets h) h⟩
  | commit => exact ⟨_, rfl, live (L.takeCommitMark h) h⟩
  | captureCycleMark => exact ⟨_, rfl, live (L.takeCaptureMark h) h⟩
  | retryTimerExpiry => exact ⟨_, rfl, live (L.timerExpires h) h⟩
  | emission => exact ⟨_, rfl, live (L.emit h) h⟩
  | transmissionEnd p => exact ⟨_, rfl, live (L.endTransmission p h) h⟩
  | resetNLow => exact ⟨_, rfl, L.bookkeeping h⟩
  | symbolLockGained p => exact ⟨_, rfl, live (L.gainLock p h) h⟩
  | symbolLockLost p => exact ⟨_, rfl, live (L.loseLock p h) h⟩
  | startSymbolInFrame p => exact ⟨_, rfl, live (L.startInFrame p h) h⟩
  | _ => exact ⟨_, rfl, frame _ _⟩

/-- A law that does not speak of the queue of waiting commands is kept by every step. -/
theorem step (hpending : ∀ {s queue}, P .settled s → P .settled { s with pending := queue }) {s t : State}
    (h : P .settled s) (hstep : step s = .next t) : P .settled t := by
  unfold Machine.step at hstep
  split at hstep
  · cases hstep; exact h
  case h_2 c rest _ =>
    obtain ⟨u, hu, hlaw⟩ := L.exec c (hpending (queue := rest) h)
    rw [hu] at hstep
    cases hstep
    exact hlaw

end StepLaw

end Sys2Proof.Machine
end

section
/-! SUPPORT. The laws that every step keeps (R1, R13, R80, R109, R126, R129, R130, R160, R161, R172, R187), each
proved as a `StepLaw`: only the changes of the stores that a law speaks of need an argument. -/

namespace Sys2Proof.Machine

set_option Elab.async false

open Sys2Proof.Safety

/-- Every record of a state whose contexts are FREE is the FREE record. -/
theorem context_of_freed {s : State} (h : s.contexts = Vector.replicate 32 Context.free) (i : Fin 32) :
    s.context i = Context.free := by
  simp [State.context, h]

/-- A table of FREE contexts and an empty Stream Map are in law. -/
theorem contextsInLaw_freed {s : State} (hmap : s.streamMap = [])
    (hctx : s.contexts = Vector.replicate 32 Context.free) : ContextsInLaw s := by
  refine ⟨fun i => ?_, fun k i => ?_⟩
  · rw [context_of_freed hctx]; exact contextInLaw_free _
  · rw [hmap, context_of_freed hctx]; simp [Table.get, Context.free]

/-- With no report queued the reports are in sequence. -/
theorem reportsInSequence_nil {s : State} (h : s.reports = []) : ReportsInSequence s := by
  simp [ReportsInSequence, h]

/-! ### The laws right after power-on -/

theorem tablesInOrder_reset : TablesInOrder State.reset :=
  ⟨List.Pairwise.nil, List.Pairwise.nil, List.Pairwise.nil, List.pairwise_singleton _ _, fun i => by
    rw [context_of_freed rfl]; exact List.Pairwise.nil⟩

theorem storesWithinBounds_reset : StoresWithinBounds State.reset := by
  simp [StoresWithinBounds, State.reset]

theorem budgetsWithinQuotas_reset : BudgetsWithinQuotas State.reset := fun i => by
  rw [context_of_freed rfl]; exact ⟨Nat.zero_le _, le_refl _⟩

/-- Settles O60: every store is empty or at its default, and every record is the FREE one. -/
theorem resetMeetsEveryLaw : Obligations.ResetMeetsEveryLaw :=
  ⟨tablesInOrder_reset, storesWithinBounds_reset, ⟨List.nodup_nil, List.nodup_nil⟩, reportsInSequence_nil rfl,
    contextsInLaw_freed rfl rfl, ⟨rfl, rfl, rfl⟩, budgetsWithinQuotas_reset, fun _ => rfl, fun _ => rfl⟩

/-! ### The queue of waiting commands (log entry 1) -/

theorem stepLaw_pending (queue : List Instr) : StepLaw fun _ s => s.pending = queue where

/-- Settles O2: every command answers a next state, and no change of the stores touches the queue of waiting commands. -/
theorem everyCommandGoesOnAndKeepsTheQueue : Obligations.EveryCommandGoesOnAndKeepsTheQueue :=
  fun c s => (stepLaw_pending s.pending).exec c rfl

/-! ### Canonical forms (log entry 11) -/

/-- Setting a record keeps the order of every latch. -/
theorem latches_setContext {s : State} (h : ∀ j : Fin 32, Table.wf (s.context j).latch) {i : Fin 32} {c : Context}
    (hc : Table.wf c.latch) (j : Fin 32) : Table.wf ((s.setContext i c).context j).latch := by
  rw [State.context_setContext]
  split
  · exact hc
  · exact h j

theorem stepLaw_tables : StepLaw fun _ s => TablesInOrder s where
  partLatch := fun ⟨hstream, hsel, hprof, hpart, hctx⟩ hl => ⟨hstream, hsel, hprof, hl hpart, hctx⟩
  setContext := fun ⟨hstream, hsel, hprof, hpart, hctx⟩ _ hc =>
    ⟨hstream, hsel, hprof, hpart, latches_setContext hctx (hc.latch (hctx _))⟩
  mapContexts := fun ⟨hstream, hsel, hprof, hpart, hctx⟩ hf _ =>
    ⟨hstream, hsel, hprof, hpart, fun i => by rw [State.context_mapContexts]; exact (hf _).latch (hctx i)⟩
  bindContext := fun ⟨hstream, hsel, hprof, hpart, hctx⟩ _ _ =>
    ⟨Table.put_wf hstream, hsel, hprof, hpart, latches_setContext hctx (hctx _)⟩
  unbindContext := fun {_ s i} ⟨hstream, hsel, hprof, hpart, hctx⟩ _ => by
    refine ⟨?_, hsel, hprof, hpart, latches_setContext hctx List.Pairwise.nil⟩
    simp only [State.setContext_streamMap]
    split
    · exact Table.erase_wf hstream
    · exact hstream
  selectionMap := fun ⟨hstream, hsel, hprof, hpart, hctx⟩ hmap => ⟨hstream, hmap hsel, hprof, hpart, hctx⟩
  commitApplied := fun {s} ⟨hstream, hsel, hprof, hpart, hctx⟩ _ =>
    ⟨hstream, hsel, applyStaged_wf hprof, hpart, fun i => by
      rw [State.context_mapContexts]; exact (ContextStep.repair s _).latch (hctx i)⟩
  freeContexts := fun ⟨_, hsel, hprof, hpart, _⟩ =>
    ⟨List.Pairwise.nil, hsel, hprof, hpart, fun i => by rw [context_of_freed rfl]; exact List.Pairwise.nil⟩
  resetFull := fun _ =>
    ⟨List.Pairwise.nil, List.Pairwise.nil, List.Pairwise.nil, latchAdd_wf (how := .latest) List.Pairwise.nil, fun i => by
      rw [context_of_freed rfl]; exact List.Pairwise.nil⟩
  powerOn := fun _ => tablesInOrder_reset

/-- Settles O54: every change of a table or a latch puts, erases or empties. -/
theorem everyStepKeepsTheTablesInOrder : Obligations.EveryStepKeepsTheTablesInOrder :=
  fun _ _ h hstep => stepLaw_tables.step id h hstep

/-! ### Budgets and quotas (R109) -/

theorem stepLaw_budgets : StepLaw fun _ s => BudgetsWithinQuotas s where
  setContext := fun {_ s i c} h _ hc j => by
    simp only [State.context_setContext]
    split
    · exact hc.budget (h i)
    · exact h j
  mapContexts := fun h hf _ i => by rw [State.context_mapContexts]; exact (hf _).budget (h i)
  bindContext := fun h _ _ j => by
    simp only [State.context_setContext]
    split
    · exact ⟨Nat.zero_le _, le_refl _⟩
    · exact h j
  unbindContext := fun h _ j => by
    simp only [State.context_setContext]
    split
    · exact ⟨Nat.zero_le _, le_refl _⟩
    · exact h j
  commitApplied := fun {s} h _ i => by
    rw [State.context_mapContexts]; exact (ContextStep.repair s _).budget (h i)
  freeContexts := fun _ i => by rw [context_of_freed rfl]; exact ⟨Nat.zero_le _, le_refl _⟩
  resetFull := fun _ i => by rw [context_of_freed rfl]; exact ⟨Nat.zero_le _, le_refl _⟩
  powerOn := fun _ => budgetsWithinQuotas_reset

/-! ### DOWN links (R187) -/

theorem stepLaw_silentLinks : StepLaw fun _ s => DownLinksSilent s where
  setLink := fun {_ s p l} ⟨hfield, hcontrol⟩ hl => by
    have hdown (hd : l.up = false) : (s.link p).up = false := by
      simpa using mt hl (by simpa using hd)
    cases p with
    | field => exact ⟨fun hd => hfield (hdown hd), hcontrol⟩
    | control => exact ⟨hfield, fun hd => hcontrol (hdown hd)⟩
  fieldDown := fun ⟨_, hcontrol⟩ => ⟨fun _ => rfl, hcontrol⟩
  controlDown := fun ⟨hfield, _⟩ => ⟨hfield, fun _ => rfl⟩
  fieldTx := fun ⟨_, hcontrol⟩ hx =>
    ⟨fun hd => Option.not_isSome_iff_eq_none.1 (mt hx (Bool.eq_false_iff.1 hd)), hcontrol⟩
  controlTx := fun ⟨hfield, _⟩ hx =>
    ⟨hfield, fun hd => Option.not_isSome_iff_eq_none.1 (mt hx (Bool.eq_false_iff.1 hd))⟩
  powerOn := fun _ => ⟨fun _ => rfl, fun _ => rfl⟩

/-! ### Lists without repeats (R80, R126) -/

theorem nodup_enterRecent {tag code : Byte} {l : List (Byte × Byte)} (h : l.Nodup) (hnew : (tag, code) ∉ l) :
    (enterRecent tag code l).Nodup := by
  have append {l' : List (Byte × Byte)} (hsub : l'.Sublist l) : (l' ++ [(tag, code)]).Nodup :=
    List.nodup_append.2
      ⟨h.sublist hsub, List.nodup_singleton _, fun a ha b hb hab => hnew (by
        rw [List.mem_singleton] at hb; exact hsub.subset (hb ▸ hab ▸ ha))⟩
  unfold enterRecent
  split
  · exact append (List.drop_sublist _ _)
  · exact append (List.Sublist.refl _)

/-- The targets after a record is staged: the same, or one new one at the end (R80). -/
theorem targets_stageRecord (e : Staged) (l : List Staged) :
    (stageRecord e l).map Staged.target
      = if ∃ x ∈ l, x.target = e.target then l.map Staged.target else l.map Staged.target ++ [e.target] := by
  split
  case isTrue hstaged =>
    rw [stageRecord_of_staged hstaged, List.map_map]
    refine List.map_congr_left fun x _ => ?_
    simp only [Function.comp_apply]
    split
    case isTrue hx => exact hx.symm
    case isFalse => rfl
  case isFalse hnew => simp [stageRecord_of_new hnew]

theorem stepLaw_lists : StepLaw fun _ s => NothingListedTwice s where
  enterRecent := fun ⟨hstaging, hrecent⟩ hnew => ⟨hstaging, nodup_enterRecent hrecent hnew⟩
  clearReports := fun ⟨hstaging, _⟩ => ⟨hstaging, List.nodup_nil⟩
  stage := fun {_ s e} ⟨hstaging, hrecent⟩ _ => by
    refine ⟨?_, hrecent⟩
    rw [targets_stageRecord]
    split
    case isTrue => exact hstaging
    case isFalse hnew =>
      refine List.nodup_append.2 ⟨hstaging, List.nodup_singleton _, fun a ha b hb hab => hnew ?_⟩
      rw [List.mem_singleton] at hb
      exact List.mem_map.1 (hb ▸ hab ▸ ha)
  unstage := fun ⟨hstaging, hrecent⟩ hl => ⟨hstaging.sublist (hl.map _), hrecent⟩
  commitApplied := fun ⟨_, hrecent⟩ _ => ⟨List.nodup_nil, hrecent⟩
  resetFull := fun _ => ⟨List.nodup_nil, List.nodup_singleton _⟩
  powerOn := fun _ => ⟨List.nodup_nil, List.nodup_nil⟩

/-- Settles O56: the Staging Area and the list, the budgets, and the DOWN links, each a law of its own. -/
theorem everyStepKeepsListsBudgetsAndSilentLinks : Obligations.EveryStepKeepsListsBudgetsAndSilentLinks :=
  ⟨fun _ _ h hstep => stepLaw_lists.step id h hstep, fun _ _ h hstep => stepLaw_budgets.step id h hstep,
    fun _ _ h hstep => stepLaw_silentLinks.step id h hstep⟩

/-! ### Bounds of the stores (R80, R111, R126, R129, R160, R183, R186) -/

/-- The commands that hold a reservation: those of the stored queue, or those yet to be taken (R129). -/
def Phase.queue (stored : List Command) : Phase → List Command
  | .settled => stored
  | .running cmds => cmds

theorem length_sendOldest (l : List Report) : (sendOldest l).length = l.length := by
  induction l with
  | nil => rfl
  | cons r rest ih => simp only [sendOldest]; split <;> simp [ih]

theorem length_enterRecent (tag code : Byte) (l : List (Byte × Byte)) : (enterRecent tag code l).length ≤ 8 := by
  unfold enterRecent
  split
  · simp only [List.length_append, List.length_drop, List.length_singleton]; omega
  · simp only [List.length_append, List.length_singleton]; omega

theorem length_stageRecord {e : Staged} {l : List Staged} (hroom : stagingRoom e.target l = true) (h : l.length ≤ 8) :
    (stageRecord e l).length ≤ 8 := by
  by_cases hstaged : ∃ x ∈ l, x.target = e.target
  · simpa [stageRecord_of_staged hstaged] using h
  · have hplace := ((stagingRoom_iff _ _).1 hroom).resolve_left hstaged
    simp only [stageRecord_of_new hstaged, List.length_append, List.length_singleton]
    omega

theorem stepLaw_bounds : StepLaw fun w s => StoresWithinBounds { s with commandQueue := w.queue s.commandQueue } where
  passQueues := fun ⟨hres, hqueue, hload, hrecent, hstaging, hmeasure, hup, hdown, hcount⟩ hu hd =>
    ⟨hres, hqueue, hload, hrecent, hstaging, hmeasure, le_trans hu (max_le le_rfl hup),
      le_trans hd (max_le le_rfl hdown), hcount⟩
  measures := fun ⟨hres, hqueue, hload, hrecent, hstaging, hmeasure, hup, hdown, hcount⟩ hm hn =>
    ⟨hres, hqueue, hload, hrecent, hstaging, le_trans hm (max_le le_rfl hmeasure), hup, hdown,
      le_trans hn (max_le le_rfl hcount)⟩
  sendOldest := fun {_ s} ⟨hres, hqueue, hload, h⟩ =>
    ⟨hres, hqueue, by simpa only [length_sendOldest] using hload, h⟩
  unsendAll := fun ⟨hres, hqueue, hload, h⟩ => ⟨hres, hqueue, by simpa only [unsendAll, List.length_map] using hload, h⟩
  dropReports := fun {_ s n} ⟨hres, hqueue, hload, h⟩ =>
    ⟨hres, hqueue, le_trans (Nat.add_le_add_right (List.drop_sublist n s.reports).length_le _) hload, h⟩
  queueReport := fun {s b} ⟨hres, hqueue, _, h⟩ hload =>
    ⟨hres, hqueue, by
      simp only [State.reportLoad] at hload
      simp only [queueReport_reports, queueReport_reservations, List.length_append, List.length_singleton]
      omega, h⟩
  enterRecent := fun ⟨hres, hqueue, hload, _, h⟩ _ => ⟨hres, hqueue, hload, length_enterRecent _ _ _, h⟩
  clearReports := fun ⟨hres, hqueue, hload, _, h⟩ =>
    ⟨hres, hqueue, le_trans (Nat.add_le_add_right (Nat.zero_le _) _) hload, Nat.zero_le _, h⟩
  stage := fun ⟨hres, hqueue, hload, hrecent, hstaging, h⟩ hroom =>
    ⟨hres, hqueue, hload, hrecent, length_stageRecord hroom hstaging, h⟩
  unstage := fun ⟨hres, hqueue, hload, hrecent, hstaging, h⟩ hl =>
    ⟨hres, hqueue, hload, hrecent, le_trans hl.length_le hstaging, h⟩
  waitBehind := fun {s c} ⟨hres, _, _, h⟩ _ hroom hload => by
    simp only [Phase.queue] at hres
    refine ⟨?_, ?_, ?_, h⟩ <;> simp only [Phase.queue, State.reportLoad, List.length_append, List.length_singleton] at * <;>
      omega
  takeAtOnce := fun {s c} ⟨hres, _, _, h⟩ hempty hload => by
    simp only [Phase.queue, hempty, List.length_nil] at hres
    refine ⟨by simp [Phase.queue, hres], by simp [Phase.queue], ?_, h⟩
    simp only [State.reportLoad] at hload
    simp only
    omega
  report := fun {c l s o stage data} ⟨hres, hqueue, hload, h⟩ => by
    simp only [Phase.queue, List.length_cons] at hres hqueue
    refine ⟨?_, ?_, ?_, h⟩ <;>
      simp only [Phase.queue, queueFinal_reservations, queueFinal_reports, List.length_append, List.length_singleton] at * <;>
      omega
  drained := fun {s} h hempty _ => by
    simpa only [Phase.queue, hempty] using h
  commitApplied := fun ⟨hres, hqueue, hload, hrecent, _, h⟩ _ => ⟨hres, hqueue, hload, hrecent, Nat.zero_le _, h⟩
  discardWork := fun ⟨_, _, hload, hrecent, hstaging, _, h⟩ =>
    ⟨rfl, Nat.zero_le _, le_trans (Nat.add_le_add_left (Nat.zero_le _) _) hload, hrecent, hstaging, Nat.zero_le _, h⟩
  resetFull := fun _ => ⟨rfl, by simp [resetFull, freeContexts, discardWork, Phase.queue]⟩
  powerOn := fun _ => storesWithinBounds_reset

/-- Settles O55: each store that grows had room, and a report comes from a reservation or a checked load. -/
theorem everyStepKeepsTheStoresWithinBounds : Obligations.EveryStepKeepsTheStoresWithinBounds :=
  fun _ _ h hstep => stepLaw_bounds.step id h hstep

/-! ### Report sequences (R161, R164) -/

theorem map_seq_sendOldest (l : List Report) : (sendOldest l).map Report.seq = l.map Report.seq := by
  induction l with
  | nil => rfl
  | cons r rest ih => simp only [sendOldest]; split <;> simp [ih]

/-- The sequence law speaks of the sequences alone. -/
theorem reportsInSequence_iff (s : State) :
    ReportsInSequence s
      ↔ (∀ (k : Nat) (q : Word), (s.reports.map Report.seq)[k]? = some q →
          q + BitVec.ofNat 16 ((s.reports.map Report.seq).length - k) = s.nextReportSeq)
        ∧ s.reports.Pairwise fun a b => b.sent = true → a.sent = true := by
  simp [ReportsInSequence, List.getElem?_map]

/-- A report takes the next sequence, UNSENT, behind all others. -/
theorem reportsInSequence_queueReport {s : State} (b : ReportBody) (h : ReportsInSequence s) :
    ReportsInSequence (queueReport b s) := by
  obtain ⟨hseq, hsent⟩ := h
  refine ⟨fun k r hr => ?_, List.pairwise_append.2 ⟨hsent, List.pairwise_singleton _ _, ?_⟩⟩
  · simp only [queueReport_reports, queueReport_nextReportSeq, List.length_append, List.length_singleton] at hr ⊢
    by_cases hk : k < s.reports.length
    · rw [List.getElem?_append_left hk] at hr
      rw [show s.reports.length + 1 - k = s.reports.length - k + 1 by omega, BitVec.ofNat_add, ← BitVec.add_assoc,
        hseq k r hr]
      rfl
    · obtain ⟨rfl, rfl⟩ : k = s.reports.length ∧ r = { seq := s.nextReportSeq, sent := false, body := b } := by
        rw [List.getElem?_append_right (by omega), List.getElem?_singleton] at hr
        split at hr
        · exact ⟨by omega, (Option.some.inj hr).symm⟩
        · cases hr
      rw [Nat.add_sub_cancel_left]
      rfl
  · intro a _ b hb hbsent
    rw [List.mem_singleton.1 hb] at hbsent
    cases hbsent

/-- R164: making the oldest UNSENT report SENT keeps the SENT ones in front. -/
theorem pairwise_sendOldest {l : List Report} (h : l.Pairwise fun a b => b.sent = true → a.sent = true) :
    (sendOldest l).Pairwise fun a b => b.sent = true → a.sent = true := by
  induction l with
  | nil => exact h
  | cons r rest ih =>
    obtain ⟨-, hrest⟩ := List.pairwise_cons.1 h
    simp only [sendOldest]
    split
    case isTrue hsent => exact List.pairwise_cons.2 ⟨fun _ _ _ => hsent, ih hrest⟩
    case isFalse => exact List.pairwise_cons.2 ⟨fun _ _ _ => rfl, hrest⟩

theorem stepLaw_sequence : StepLaw fun _ s => ReportsInSequence s where
  sendOldest := fun {_ s} h => by
    rw [reportsInSequence_iff] at h ⊢
    simpa only [map_seq_sendOldest] using ⟨h.1, pairwise_sendOldest h.2⟩
  unsendAll := fun {_ s} h => by
    rw [reportsInSequence_iff] at h ⊢
    have hseqs : (unsendAll s.reports).map Report.seq = s.reports.map Report.seq := by
      simp [unsendAll, Function.comp_def]
    refine ⟨by simpa only [hseqs] using h.1, List.pairwise_map.2 (h.2.imp fun _ hunsent => ?_)⟩
    cases hunsent
  dropReports := fun {_ s n} ⟨hseq, hsent⟩ =>
    ⟨fun k r hr => by
      rw [List.length_drop, Nat.sub_sub]
      exact hseq (n + k) r (by rwa [List.getElem?_drop] at hr), hsent.sublist (List.drop_sublist _ _)⟩
  queueReport := fun h _ => reportsInSequence_queueReport _ h
  clearReports := fun _ => reportsInSequence_nil rfl
  report := fun {c l s o stage data} h =>
    reportsInSequence_queueReport (s := { s with reservations := s.reservations - 1 }) _ h
  resetFull := fun _ => reportsInSequence_nil rfl
  powerOn := fun _ => reportsInSequence_nil rfl

/-- Settles O57: reports join at the end, leave in front, and are sent from the front on. -/
theorem everyStepKeepsReportsInSequence : Obligations.EveryStepKeepsReportsInSequence :=
  fun _ _ h hstep => stepLaw_sequence.step id h hstep

/-! ### The head of the Command Queue (R130, R147) -/

/-- The law of the head on the stores it speaks of; while commands are taken, no commit is pending and no capture runs. -/
def HeadLaw (queue : List Command) (executing commitPending : Bool) (capture : Option Capture) : Phase → Prop
  | .settled =>
    HeadInOrder
      { State.reset with
        commandQueue := queue, executing := executing, commitPending := commitPending, capture := capture }
  | .running _ => commitPending = false ∧ capture = none

/-- A running capture is at the head, and no commit is pending. -/
theorem commitPending_of_capture {s : State} {k : Capture} (h : HeadInOrder s) (hk : s.capture = some k) :
    s.commitPending = false := by
  unfold HeadInOrder at h
  split at h
  · exact h.2.1
  · obtain ⟨-, ⟨-, -, hnone⟩ | ⟨-, hpending, -⟩⟩ := h
    · rw [hk] at hnone; cases hnone
    · exact hpending

/-- A pending commit is at the head, and no capture runs. -/
theorem capture_of_commitPending {s : State} (h : HeadInOrder s) (hpending : s.commitPending = true) :
    s.capture = none := by
  unfold HeadInOrder at h
  split at h
  · exact h.2.2
  · obtain ⟨-, ⟨-, -, hnone⟩ | ⟨-, hidle, -⟩⟩ := h
    · exact hnone
    · rw [hpending] at hidle; cases hidle

theorem stepLaw_head : StepLaw fun w s => HeadLaw s.commandQueue s.executing s.commitPending s.capture w where
  waitBehind := fun {s c} h hbusy _ _ => by
    cases hq : s.commandQueue with
    | nil => exact absurd hq hbusy
    | cons c' rest => rw [hq] at h; exact h
  takeAtOnce := fun {s c} h hempty _ => by
    rw [hempty] at h
    exact ⟨h.2.1, h.2.2⟩
  drained := fun {s} h hempty hidle => by
    rw [hempty, hidle]
    exact ⟨rfl, h.1, h.2⟩
  commitStays := fun h hcode => ⟨rfl, .inl ⟨hcode, rfl, h.2⟩⟩
  captureStays := fun h hcode htarget => ⟨rfl, .inr ⟨hcode, h.1, _, rfl, htarget⟩⟩
  captureGoesOn := fun {s k k'} h hk hcontext => by
    have hidle := commitPending_of_capture (s := s) h hk
    cases hq : s.commandQueue with
    | nil => rw [hq, hk] at h; cases h.2.2
    | cons c rest =>
      rw [hq, hk, hidle] at h
      obtain ⟨hexec, ⟨-, hno, -⟩ | ⟨hcode, -, x, hx, htarget⟩⟩ := h
      · cases hno
      · cases hx
        exact ⟨hexec, .inr ⟨hcode, hidle, k', rfl, by rw [htarget, hcontext]⟩⟩
  captureEnds := fun {s k} h hk => ⟨commitPending_of_capture (s := s) h hk, rfl⟩
  commitCancelled := fun {s} h hpending => ⟨rfl, capture_of_commitPending (s := s) h hpending⟩
  commitApplied := fun {s} h hpending => ⟨rfl, capture_of_commitPending (s := s) h hpending⟩
  discardWork := fun _ => ⟨rfl, rfl, rfl⟩
  resetFull := fun _ => ⟨rfl, rfl, rfl⟩
  powerOn := fun _ => ⟨rfl, rfl, rfl⟩

/-- Settles O59: the law of the head, read where no commands are being taken. -/
theorem everyStepKeepsTheHeadInOrder : Obligations.EveryStepKeepsTheHeadInOrder :=
  fun _ _ h hstep => stepLaw_head.step id h hstep

/-! ### The five states and the Stream Map (R1, R13) -/

/-- In law, a context that an event knows to be in use is not FREE. -/
theorem not_free_of_inUse {s : State} {i : Fin 32} (h : ContextsInLaw s) (hused : s.InUse i) :
    (s.context i).state ≠ .free := by
  obtain ⟨hlaw, hmap⟩ := h
  obtain ⟨k, hk⟩ | hstate | hheld | hlatch := hused
  · have hkey := (hmap k.index i).1 hk
    rw [Ne, free_iff_of_inLaw (hlaw i)]
    intro hnone
    rw [hnone] at hkey
    cases hkey
  · exact hstate
  · intro hfree
    obtain ⟨hstate, -⟩ := hlaw i
    rw [hfree] at hstate
    rw [hstate.2.2.2.1] at hheld
    cases hheld
  · exact not_free_of_latch (hlaw i) hlatch

/-- The repair leaves a FREE context as it is. -/
theorem repair_of_free {s : State} {c : Context} (hlaw : ContextInLaw s.profiles c) (hfree : c.state = .free) :
    (s.repair c).context = c := by
  have hd := descriptor_of_free hlaw hfree
  obtain ⟨hstate, -⟩ := hlaw
  rw [hfree] at hstate
  obtain ⟨-, -, hnone, -⟩ := hstate
  unfold State.repair repairContext
  rw [hnone]
  dsimp only
  split
  · simp [hfree]
  · simp [Context.giveFixed, hd]

theorem stepLaw_contexts : StepLaw fun _ s => ContextsInLaw s where
  setContext := fun {_ s i c} h hused hc => by
    have hnotFree := not_free_of_inUse h hused
    obtain ⟨hlaw, hmap⟩ := h
    refine ⟨fun j => ?_, fun k j => ?_⟩
    · rw [State.context_setContext]
      split
      · exact hc.law hnotFree (hlaw i)
      · exact hlaw j
    · rw [State.setContext_streamMap, hmap, State.context_setContext]
      split
      case isTrue hij => rw [hc.key, hij]
      case isFalse => rfl
  mapContexts := fun {_ s f} ⟨hlaw, hmap⟩ hf hfree => by
    refine ⟨fun i => ?_, fun k i => ?_⟩
    · rw [State.context_mapContexts]
      by_cases hstate : (s.context i).state = .free
      · exact hfree _ hstate (hlaw i)
      · exact (hf _).law hstate (hlaw i)
    · rw [State.mapContexts_streamMap, hmap, State.context_mapContexts, (hf _).key]
  bindContext := fun {_ s i k variant mode} ⟨hlaw, hmap⟩ hfree hnew => by
    have hnone := (free_iff_of_inLaw (hlaw i)).1 hfree
    refine ⟨fun j => ?_, fun k' j => ?_⟩
    · rw [State.context_setContext]
      split
      · exact contextInLaw_bound _ _ _ _ _
      · exact hlaw j
    · have hi (k' : BitVec 8) : Table.get k' s.streamMap ≠ some i := by
        rw [Ne, hmap, hnone]; simp
      have hk (j : Fin 32) : (s.context j).key.map Key.index ≠ some k.index := by
        rw [Ne, ← hmap]; exact fun hj => by rw [State.resolve, hj] at hnew; cases hnew
      rw [State.setContext_streamMap, Table.get_put, State.context_setContext]
      split <;> split
      case isTrue.isTrue hkey hij => simp [hij, hkey, Context.bound]
      case isTrue.isFalse hkey hij => exact iff_of_false (fun hj => hij (Option.some.inj hj)) (hkey ▸ hk j)
      case isFalse.isTrue hkey hij =>
        exact iff_of_false (hij ▸ hi k') fun hj => hkey (Option.some.inj hj)
      case isFalse.isFalse => exact hmap k' j
  unbindContext := fun {_ s i} ⟨hlaw, hmap⟩ hused => by
    obtain ⟨k, hk⟩ : ∃ k, (s.context i).key = some k :=
      Option.ne_none_iff_exists'.1 (mt (free_iff_of_inLaw (hlaw i)).2 hused)
    have hresolved : Table.get k.index s.streamMap = some i := by rw [hmap, hk]; rfl
    refine ⟨fun j => ?_, fun k' j => ?_⟩
    · rw [State.setContext_profiles, State.context_setContext]
      by_cases hij : i = j
      · rw [if_pos hij]; exact contextInLaw_free _
      · rw [if_neg hij]; exact hlaw j
    · simp only [State.setContext_streamMap, hk, Table.get_erase]
      rw [State.context_setContext]
      split <;> split
      case isTrue.isTrue => simp [Context.free]
      case isTrue.isFalse hkey hij =>
        subst hkey
        refine iff_of_false (by simp) fun hj => hij ?_
        exact Option.some.inj (hresolved.symm.trans ((hmap _ _).2 hj))
      case isFalse.isTrue hkey hij =>
        subst hij
        rw [hmap, hk]
        simpa [Context.free] using hkey
      case isFalse.isFalse => exact hmap k' j
  commitApplied := fun {s} ⟨hlaw, hmap⟩ _ => by
    refine ⟨fun i => ?_, fun k i => ?_⟩
    · rw [State.context_mapContexts]
      by_cases hstate : (s.context i).state = .free
      · have hkept := repair_of_free (hlaw i) hstate
        obtain ⟨hi, -⟩ := hlaw i
        have hi' := hi
        rw [hstate] at hi'
        obtain ⟨-, -, hnone, -⟩ := hi'
        exact hkept.symm ▸ ⟨hi, fun p hp => by rw [hnone] at hp; cases hp⟩
      · exact (ContextStep.repair s _).law hstate (hlaw i)
    · rw [State.mapContexts_streamMap, State.context_mapContexts, (ContextStep.repair s _).key]
      exact hmap k i
  freeContexts := fun _ => contextsInLaw_freed rfl rfl
  resetFull := fun _ => contextsInLaw_freed rfl rfl
  powerOn := fun _ => contextsInLaw_freed rfl rfl

/-- Settles O58: each record by its `ContextStep`, and the map by the keys that BIND, UNBIND and the resets move. -/
theorem everyStepKeepsContextsInLaw : Obligations.EveryStepKeepsContextsInLaw :=
  fun _ _ h hstep => stepLaw_contexts.step id h hstep

end Sys2Proof.Machine
end

section
/-! SUPPORT. The machine and its links (chapter 10): the step, power-on and RESET_N, symbol lock, the loss of either link, and
the events whose condition does not hold. -/

namespace Sys2Proof.Machine

set_option Elab.async false

open Sys2Proof.Safety

/-! ### The step and power-on (R193) -/

/-- Settles O1: the step is defined by the front of the queue. -/
theorem stepTakesTheFrontCommand : Obligations.StepTakesTheFrontCommand :=
  ⟨fun _ _ _ => rfl, fun s hempty => by simp only [step, hempty]⟩

/-- Settles O3: the records are those of the FREE one, and every other store is its default. -/
theorem resetHoldsThePowerOnValues : Obligations.ResetHoldsThePowerOnValues := by
  refine ⟨fun i => context_of_freed rfl i, ?free, ?links, ?tables, ?reports⟩
  case free => decide
  case links => refine ⟨rfl, rfl, rfl, rfl, rfl, rfl, rfl, rfl, rfl, ?_, rfl, rfl, rfl⟩; decide
  case tables => exact ⟨rfl, rfl, rfl, rfl, rfl, rfl, rfl, rfl, rfl, rfl⟩
  case reports => exact ⟨rfl, rfl, rfl, rfl, rfl, rfl, rfl, rfl, rfl, rfl⟩

/-- Every command but the two of RESET_N itself is taken by a part whose RESET_N is released. -/
theorem exec_eq_live {c : Instr} (hrelease : ∀ ns, c ≠ .powerOn ns) (hlow : c ≠ .resetNLow) :
    ∃ f : State → State, ∀ s, exec c s = .next (s.live f) := by
  cases c with
  | powerOn ns => exact absurd rfl (hrelease ns)
  | resetNLow => exact absurd rfl hlow
  | _ => exact ⟨_, fun _ => rfl⟩

/-- Settles O4: the length of the low decides, and below 10 µs the free value does; while RESET_N is low the part takes
nothing. -/
theorem releaseOfResetIsPowerOn : Obligations.ReleaseOfResetIsPowerOn := by
  refine ⟨fun ns s hlong => ?long, fun ns s hshort => ?short, fun s => rfl, fun c s hheld hrelease => ?held⟩
  case long => exact congrArg Host.Outcome.next (if_pos hlong)
  case short =>
    have hcases : releaseReset ns s
        = if Config.shortPulseRecognised s.draws then powerOnState { s with draws := s.draws + 1 }
          else { s with draws := s.draws + 1, resetHeld := false } := if_neg (Nat.not_le.2 hshort)
    by_cases hseen : Config.shortPulseRecognised s.draws = true
    · exact .inl (congrArg Host.Outcome.next (hcases.trans (if_pos hseen)))
    · exact .inr (congrArg Host.Outcome.next (hcases.trans (if_neg hseen)))
  case held =>
    by_cases hlow : c = .resetNLow
    · subst hlow
      exact congrArg Host.Outcome.next (by rw [← hheld])
    · obtain ⟨f, hf⟩ := exec_eq_live hrelease hlow
      rw [hf, State.live_of_held hheld]

/-! ### Symbol lock (R180, R189, R190) -/

section
variable {s : State} {p : Port}

theorem gainLock_of_up (h : (s.link p).up = true) : gainLock p s = s := if_pos h

theorem gainLock_of_down (h : (s.link p).up = false) : gainLock p s = s.setLink p { s.link p with locking := true } :=
  if_neg (by simp [h])

theorem loseLock_of_up (h : (s.link p).up = true) : loseLock p s = s := if_pos h

theorem loseLock_of_down (h : (s.link p).up = false) : loseLock p s = s.setLink p { s.link p with locking := false } :=
  if_neg (by simp [h])

theorem lockHeld_of_locking (h : (s.link p).up = false) (hlock : (s.link p).locking = true) (comeUp : State → State) :
    lockHeld p comeUp s = comeUp (s.setLink p { up := true, locking := false, midFrame := false }) :=
  if_pos (by simp [h, hlock])

theorem lockHeld_of_idle (h : (s.link p).up = true ∨ (s.link p).locking = false) (comeUp : State → State) :
    lockHeld p comeUp s = s :=
  if_neg (by rcases h with h | h <;> simp [h])

end

/-- Settles O5: each event of symbol lock by the state of its link. -/
theorem heldLockBringsTheLinkUp : Obligations.HeldLockBringsTheLinkUp := by
  intro s hreleased
  have taken (f : State → State) : (.next (s.live f) : StepOutcome) = .next (f s) := by
    rw [State.live_of_released hreleased]
  refine ⟨fun p hdown => ⟨?_, ?_⟩, fun p hup => ⟨?_, ?_⟩, fun hdown hlock => ?_, fun hdown hlock => ?_, fun hidle => ?_,
    fun hidle => ?_⟩
  · rw [exec, execSymbolLockGained, taken, gainLock_of_down hdown]
  · rw [exec, execSymbolLockLost, taken, loseLock_of_down hdown]
  · rw [exec, execSymbolLockGained, taken, gainLock_of_up hup]
  · rw [exec, execSymbolLockLost, taken, loseLock_of_up hup]
  · rw [exec, execFieldLinkUp, taken, lockHeld_of_locking (p := .field) hdown hlock]; rfl
  · rw [exec, execControlLinkUp, taken, lockHeld_of_locking (p := .control) hdown hlock]; rfl
  · rw [exec, execFieldLinkUp, taken, lockHeld_of_idle (p := .field) hidle]
  · rw [exec, execControlLinkUp, taken, lockHeld_of_idle (p := .control) hidle]

/-! ### The loss of a link (R188, R190) -/

/-- R31: a copy is lost with the slot that holds it, and one with the transmitter that sends it. -/
theorem copiesLost_eq (s : State) :
    copiesLost s
      = (if s.cycleSlot = none then 0 else 1)
        + (match s.fieldTx with | some (.cycleCopy _) => 1 | some (.pass _) => 0 | none => 0) := by
  unfold copiesLost
  cases s.cycleSlot <;> rfl

/-- Settles O6: what the port loses and the contexts become, and then the capture that ends. -/
theorem fieldLinkLossReturnsContextsToBound : Obligations.FieldLinkLossReturnsContextsToBound := by
  intro s hreleased hup copies moved lost
  have hlost : latchPart .fieldDown [natWord (s.countContexts Context.movedByLoss)]
      ((fieldPortLoss s).mapContexts Context.loseLink) = lost := by
    simp only [fieldPortLoss, copiesLost_eq]
    rfl
  have hexec : exec .fieldLinkLoss s = .next (arbitrate (captureLinkDown lost)) := by
    rw [exec, execFieldLinkLoss, State.live_of_released hreleased, fieldLoss, if_neg (by simp [hup]), hlost]
  refine ⟨fun hnone => ?_, fun k hk => ?_⟩
  · have hidle : captureLinkDown lost = lost := by
      rw [captureLinkDown, show lost.capture = none from hnone]
    rw [hexec, hidle]
  · have hends : captureLinkDown lost = endCapture .linkDown k lost := by
      rw [captureLinkDown, show lost.capture = some k from hk]
    rw [hexec, hends, endCapture_eq (by decide)]

/-- Settles O7: the link is UP, so the loss happens; what it leaves is its definition. -/
theorem controlLinkLossDiscardsCommandsAndReports : Obligations.ControlLinkLossDiscardsCommandsAndReports := by
  intro s hreleased hup
  rw [exec, execControlLinkLoss, State.live_of_released hreleased, controlLoss, if_neg (by simp [hup])]
  rfl

/-! ### Events without their condition (log entries 6 and 7) -/

/-- With every latch empty no owner is next (R175). -/
theorem nextOwner_of_empty {s : State} (hpart : s.partLatch = []) (hcontexts : ∀ i : Fin 32, (s.context i).latch = []) :
    nextOwner s = none := by
  have hempty (o : Owner) : s.latchOf o = [] := by
    cases o with
    | part => exact hpart
    | context i => exact hcontexts i
  exact List.find?_eq_none.2 fun o _ => by simp [hempty o]

/-- Settles O8: the condition of each event is the first thing it looks at. -/
theorem eventWithoutItsConditionChangesNothing : Obligations.EventWithoutItsConditionChangesNothing := by
  intro s hreleased
  have taken {f : State → State} (h : f s = s) : (.next (s.live f) : StepOutcome) = .next s := by
    rw [State.live_of_released hreleased, h]
  refine ⟨fun hdown => ?_, fun hdown => ?_, fun hidle => ?_, fun hidle => ?_, fun hstopped => ?_, fun hnot => ?_,
    fun hnone => ?_, fun hnone => ?_, fun hnone => ?_, fun hnone => ?_, fun hnone => ?_⟩
  · exact taken (if_pos (by simp [hdown]))
  · exact taken (if_pos (by simp [hdown]))
  · exact taken (f := endTransmission .field) (if_neg (by simp [hidle]))
  · exact taken (f := endTransmission .control) (if_neg (by simp [hidle]))
  · exact taken (if_pos (by simp [hstopped]))
  · refine taken (f := emit) ?_
    rcases hnot with hdown | hload | ⟨hpart, hcontexts⟩
    · exact if_pos (by simp [State.linkUp_of_released hreleased, hdown])
    · exact if_pos (by simp [State.reportLoad, hload])
    · unfold emit
      rw [nextOwner_of_empty hpart hcontexts, ite_self]
  · exact taken (if_pos hnone)
  · exact taken (if_pos hnone)
  · exact taken (if_pos hnone)
  · exact taken (if_pos hnone)
  · exact taken (if_pos hnone)

end Sys2Proof.Machine
end

section
/-! SUPPORT. Frames (chapter 10): the five checks of a port in their order (R181), the frames that pass them (R182, R194), the
rows that the words of COMMAND frames are (R122), PASS and CYCLE frames (R26 to R30, R183), and the frames the part builds
(R30, R115, R195). -/

namespace Sys2Proof.Machine

set_option Elab.async false

open Sys2Proof.Safety

/-! ### The checks of a port (R181) -/

section
variable {p : Port} {ws : List Word}

theorem receive_of_length (h : ws.length < 4 ∨ 64 < ws.length) : receive p ws = .bad .length := by
  unfold receive
  rw [if_pos (by simpa using h)]

theorem receive_of_crc (hlow : 4 ≤ ws.length) (hhigh : ws.length ≤ 64) (h : ws.getLast? ≠ some (crc ws.dropLast)) :
    receive p ws = .bad .crc := by
  unfold receive
  rw [if_neg (by simp; omega), if_pos h]

/-- A frame of allowed length with a good CRC is judged by its header alone. -/
theorem receive_of_header {w0 w1 w2 : Word} {rest : List Word} (hws : ws = w0 :: w1 :: w2 :: rest)
    (hlow : 4 ≤ ws.length) (hhigh : ws.length ≤ 64) (hcrc : ws.getLast? = some (crc ws.dropLast)) :
    receive p ws
      = let h := Header.read w0 w1 w2
        if 60 < h.length.toNat || ws.length ≠ h.length.toNat + 4 then .bad .length
        else if h.kind = 0 || 7 < h.kind.toNat || !reservedClear w0 w1 w2 then .bad .header
        else
          match acceptedUse p h.kind h.dst h.src with
          | none => .bad .stray
          | some u =>
            .good u { src := h.src, seq := h.seq, channel := h.channel, payload := rest.dropLast, words := ws } := by
  subst hws
  unfold receive
  have hlen : ¬ ((decide ((w0 :: w1 :: w2 :: rest).length < 4)
      || decide (64 < (w0 :: w1 :: w2 :: rest).length)) = true) := by
    rw [Bool.or_eq_true, decide_eq_true_eq, decide_eq_true_eq]
    omega
  exact (if_neg hlen).trans (if_neg (not_not.2 hcrc))

/-- What a good frame tells of its words. -/
theorem receive_good_inv {u : FrameUse} {f : Frame} (h : receive p ws = .good u f) :
    ∃ w0 w1 w2 rest, ws = w0 :: w1 :: w2 :: rest ∧ ws.getLast? = some (crc ws.dropLast)
      ∧ (Header.read w0 w1 w2).length.toNat ≤ 60 ∧ ws.length = (Header.read w0 w1 w2).length.toNat + 4
      ∧ reservedClear w0 w1 w2 = true
      ∧ acceptedUse p (Header.read w0 w1 w2).kind (Header.read w0 w1 w2).dst (Header.read w0 w1 w2).src = some u
      ∧ f = { src := (Header.read w0 w1 w2).src, seq := (Header.read w0 w1 w2).seq,
              channel := (Header.read w0 w1 w2).channel, payload := rest.dropLast, words := ws } := by
  by_cases hlen : ws.length < 4 ∨ 64 < ws.length
  · rw [receive_of_length hlen] at h; cases h
  obtain ⟨hlow, hhigh⟩ : 4 ≤ ws.length ∧ ws.length ≤ 64 := by omega
  by_cases hcrc : ws.getLast? = some (crc ws.dropLast)
  case neg => rw [receive_of_crc hlow hhigh hcrc] at h; cases h
  obtain ⟨w0, w1, w2, rest, hws⟩ : ∃ w0 w1 w2 rest, ws = w0 :: w1 :: w2 :: rest := by
    match ws, hlow with
    | w0 :: w1 :: w2 :: rest, _ => exact ⟨w0, w1, w2, rest, rfl⟩
  rw [receive_of_header hws hlow hhigh hcrc] at h
  dsimp only at h
  split at h
  case isTrue => cases h
  case isFalse hfield =>
  split at h
  case isTrue => cases h
  case isFalse hheader =>
  split at h
  case h_1 => cases h
  case h_2 u' hu =>
    simp only [Reception.good.injEq] at h
    obtain ⟨rfl, rfl⟩ := h
    simp only [Bool.or_eq_true, decide_eq_true_eq, not_or, Bool.not_eq_true', Bool.not_eq_false, not_lt, not_not]
      at hfield hheader
    obtain ⟨hmax, hcount⟩ := hfield
    obtain ⟨-, hclear⟩ := hheader
    exact ⟨w0, w1, w2, rest, hws, hcrc, hmax, hcount, hclear, hu, rfl⟩

theorem words_of_receive {u : FrameUse} {f : Frame} (h : receive p ws = .good u f) : f.words = ws := by
  obtain ⟨w0, w1, w2, rest, -, -, -, -, -, -, rfl⟩ := receive_good_inv h
  rfl

end

/-- R181: counting a bad frame adds 1 to the counter of its port and error, in the order of the counter table. -/
theorem countFrameError_toList (p : Port) (e : FrameError) (s : State) :
    (countFrameError p e s).part.toList
      = s.part.toList.modify
          (match p, e with
            | .field, .length => 2 | .field, .crc => 1 | .field, .header => 3 | .field, .stray => 4
            | .control, .length => 10 | .control, .crc => 9 | .control, .header => 11 | .control, .stray => 12)
          fun n => satAdd n 1 := by
  cases p <;> cases e <;> rfl

/-- R182: where no row of the accepted combinations is met, no use is. -/
theorem acceptedUse_eq_none {p : Port} {kind : BitVec 4} {dst src : BitVec 5}
    (h : ∀ u, ¬ AcceptedCombination p kind.toNat dst.toNat src.toNat u) : acceptedUse p kind dst src = none :=
  Option.eq_none_iff_forall_ne_some.2 fun u hu => h u ((acceptedUse_iff p kind dst src u).1 hu)

/-- The header check by the numbers of the words (R181, R194). -/
theorem header_bad_iff (w0 w1 w2 : Word) :
    (decide ((Header.read w0 w1 w2).kind = 0) || decide (7 < (Header.read w0 w1 w2).kind.toNat)
        || !reservedClear w0 w1 w2) = true
      ↔ w0.toNat / 4096 = 0 ∨ 7 < w0.toNat / 4096 ∨ w0.toNat % 4 ≠ 0 ∨ w1.toNat % 32 ≠ 0 ∨ w2.toNat / 64 ≠ 0 := by
  have hreserved := reservedClear_iff w0 w1 w2
  obtain ⟨hkind, -, -, -⟩ := Header.read_toNat w0 w1 w2
  rw [Bool.or_eq_true, Bool.or_eq_true, Bool.not_eq_true', ← Bool.not_eq_true, hreserved, decide_eq_true_eq,
    decide_eq_true_eq, BitVec.toNat_eq, hkind]
  change (_ / _ = 0 ∨ _) ∨ _ ↔ _
  tauto

theorem exec_startSymbolInFrame {p : Port} {s : State} (hreleased : s.resetHeld = false) :
    exec (.startSymbolInFrame p) s = .next (startInFrame p s) :=
  congrArg Host.Outcome.next (State.live_of_released hreleased _)

theorem startInFrame_of_down {p : Port} {s : State} (hreleased : s.resetHeld = false) (h : (s.link p).up = false) :
    startInFrame p s = s :=
  if_pos (by simp [State.linkUp_of_released hreleased, h])

theorem startInFrame_of_up {p : Port} {s : State} (hreleased : s.resetHeld = false) (h : (s.link p).up = true) :
    startInFrame p s = countFrameError p .length (s.setLink p { s.link p with midFrame := true }) :=
  if_neg (by simp [State.linkUp_of_released hreleased, h])

/-- Settles O9: the checks in their order, each by the error it gives; then the start symbol inside a frame and the good frame. -/
theorem damagedAndPartialFramesAreCountedOnce : Obligations.DamagedAndPartialFramesAreCountedOnce := by
  refine ⟨fun c p ws s hframe hreleased => ?frames,
    fun s hreleased => ⟨fun hup => ?_, fun hup => ?_, fun p hdown => ?_⟩,
    fun s => ⟨rfl, rfl⟩⟩
  case frames =>
    intro countedAs
    refine ⟨fun hdown => ?down, fun hup => ?up⟩
    case down =>
      have hignored : frameArrives p ws s = s := if_pos (by simp [State.linkUp_of_released hreleased, hdown])
      rw [exec_of_frame hframe, State.live_of_released hreleased, hignored]
    case up =>
      have counted {e : FrameError} (hbad : receive p ws = .bad e) :
          ∃ t : State, exec c s = .next t ∧ t = { s.setLink p { s.link p with midFrame := false } with part := t.part }
            ∧ t = countFrameError p e (s.setLink p { s.link p with midFrame := false }) :=
        ⟨_, by rw [exec_of_frame hframe, frameArrives_of_bad hreleased hup hbad], rfl, rfl⟩
      have counts {e : FrameError} {field control : Nat} (hbad : receive p ws = .bad e)
          (hnumber : (field, control)
            = match e with | .length => (3, 11) | .crc => (2, 10) | .header => (4, 12) | .stray => (5, 13)) :
          countedAs field control := by
        obtain ⟨t, hexec, ht, hcounted⟩ := counted hbad
        refine ⟨t, hexec, ht, ?_⟩
        rw [hcounted, countFrameError_toList, State.setLink_part]
        cases e <;> cases hnumber <;> cases p <;> rfl
      refine ⟨fun hlen => counts (receive_of_length hlen) rfl, fun hlow hhigh =>
        ⟨fun hcrc => counts (receive_of_crc hlow hhigh hcrc) rfl, fun w0 w1 w2 rest hws hcrc => ?_⟩⟩
      intro lengthBad kind headerBad
      have hjudged := receive_of_header (p := p) hws hlow hhigh hcrc
      obtain ⟨hkind, hdst, hsrc, hlength⟩ := Header.read_toNat w0 w1 w2
      have hlengthBad : (decide (60 < (Header.read w0 w1 w2).length.toNat)
          || decide (ws.length ≠ (Header.read w0 w1 w2).length.toNat + 4)) = true ↔ lengthBad := by
        rw [hlength, Bool.or_eq_true, decide_eq_true_eq, decide_eq_true_eq]
      have hheaderBad := header_bad_iff w0 w1 w2
      refine ⟨fun hbad => counts (e := .length) ?_ rfl, fun hok hbad => counts (e := .header) ?_ rfl,
        fun hok hheader hnone => counts (e := .stray) ?_ rfl⟩
      · exact hjudged.trans (if_pos (hlengthBad.2 hbad))
      · exact hjudged.trans ((if_neg (mt hlengthBad.1 hok)).trans (if_pos (hheaderBad.2 hbad)))
      · have hstray := acceptedUse_eq_none (p := p) (kind := (Header.read w0 w1 w2).kind)
          (dst := (Header.read w0 w1 w2).dst) (src := (Header.read w0 w1 w2).src) (by rwa [hkind, hdst, hsrc])
        refine hjudged.trans ((if_neg (mt hlengthBad.1 hok)).trans ((if_neg (mt hheaderBad.1 hheader)).trans ?_))
        rw [hstray]
  · rw [exec_startSymbolInFrame hreleased, startInFrame_of_up (p := .field) hreleased hup]; rfl
  · rw [exec_startSymbolInFrame hreleased, startInFrame_of_up (p := .control) hreleased hup]; rfl
  · rw [exec_startSymbolInFrame hreleased, startInFrame_of_down hreleased hdown]

/-! ### The frames a port hands on (R182, R194) -/

/-- A good frame is the frame the layout builds of its fields. -/
theorem eq_frameWords_of_good {p : Port} {ws : List Word} {u : FrameUse} {f : Frame} (h : receive p ws = .good u f) :
    ∃ kind dst, acceptedUse p kind dst f.src = some u ∧ f.payload.length ≤ 60 ∧ f.words = ws
      ∧ ws = frameWords kind dst f.src f.seq f.channel f.payload := by
  obtain ⟨w0, w1, w2, rest, rfl, hcrc, hmax, hcount, hclear, hu, rfl⟩ := receive_good_inv h
  simp only [List.length_cons] at hcount
  have hne : rest ≠ [] := by rintro rfl; simp at hcount
  have hlen : rest.dropLast.length = (Header.read w0 w1 w2).length.toNat := by
    rw [List.length_dropLast]; omega
  refine ⟨_, _, hu, hlen ▸ hmax, rfl, ?_⟩
  have hfield : BitVec.ofNat 6 rest.dropLast.length = (Header.read w0 w1 w2).length := by
    rw [hlen, BitVec.ofNat_toNat, BitVec.setWidth_eq]
  have hbody : Header.words
        { kind := (Header.read w0 w1 w2).kind, dst := (Header.read w0 w1 w2).dst, src := (Header.read w0 w1 w2).src,
          seq := (Header.read w0 w1 w2).seq, channel := (Header.read w0 w1 w2).channel,
          length := (Header.read w0 w1 w2).length } ++ rest.dropLast
      = (w0 :: w1 :: w2 :: rest).dropLast := by
    refine (congrArg (· ++ rest.dropLast) (Header.words_read hclear)).trans ?_
    simp [List.dropLast_cons_of_ne_nil, hne]
  simp only [frameWords, hfield, hbody]
  exact (List.dropLast_append_getLast? _ hcrc).symm

/-- The numbers of an accepted combination fit the fields of the header. -/
theorem AcceptedCombination.bounds {p : Port} {kind dst src : Nat} {u : FrameUse}
    (h : AcceptedCombination p kind dst src u) : kind < 16 ∧ dst < 32 := by
  cases u <;> simp only [AcceptedCombination] at h <;> omega

/-- Settles O10: a good frame is read back from its words, and the frame that the layout builds of accepted fields passes
the checks. -/
theorem goodFramesAreExactlyTheBuiltOnes : Obligations.GoodFramesAreExactlyTheBuiltOnes := by
  intro p ws u f
  refine ⟨fun h => ?_, fun ⟨kind, dst, hws, hlen, hwords, haccepted⟩ => ?_⟩
  · obtain ⟨kind, dst, hu, hlen, hwords, hws⟩ := eq_frameWords_of_good h
    exact ⟨kind.toNat, dst.toNat, hws.trans (frameWords_eq_layout _ _ _ _ _ hlen), hlen, hwords,
      (acceptedUse_iff p kind dst f.src u).1 hu⟩
  · obtain ⟨hkind, hdst⟩ := AcceptedCombination.bounds haccepted
    have hk : (BitVec.ofNat 4 kind).toNat = kind := by rw [BitVec.toNat_ofNat]; omega
    have hd : (BitVec.ofNat 5 dst).toNat = dst := by rw [BitVec.toNat_ofNat]; omega
    have hbuilt : ws = frameWords (BitVec.ofNat 4 kind) (BitVec.ofNat 5 dst) f.src f.seq f.channel f.payload := by
      rw [frameWords_eq_layout _ _ _ _ _ hlen, hk, hd, hws]
    have hu : acceptedUse p (BitVec.ofNat 4 kind) (BitVec.ofNat 5 dst) f.src = some u :=
      (acceptedUse_iff _ _ _ _ _).2 (by rwa [hk, hd])
    rw [hbuilt, receive_frameWords f.seq f.channel hlen hu, ← hbuilt, ← hwords]

/-! ### The rows of COMMAND frames (R122) -/

section
variable {seq tag code : Byte} {channel : BitVec 3} {target : Word} {params : List Word}

theorem frameCommand_commandWords (hlen : params.length ≤ 58) :
    frameCommand .control (commandWords seq channel code tag target params)
      = commandRow .control (commandWords seq channel code tag target params) ((code ++ tag) :: target :: params) := by
  rw [frameCommand, receive_commandWords seq channel code tag target hlen]

/-- The words of a queued command are its row. -/
theorem frameCommand_queued (q : QueuedCode) (hlen : params.length ≤ 58) :
    frameCommand .control (commandWords seq channel q.toByte tag target params)
      = some (q.row .control (commandWords seq channel q.toByte tag target params) (some target)) := by
  rw [frameCommand_commandWords hlen]
  simp only [commandRow, codeOf_append, CommandCode.ofByte_queued, List.head?_cons]

/-- The words of an immediate command are its row, that of RESET-PART by its scope. -/
theorem frameCommand_immediate (i : ImmediateCode) (hlen : params.length ≤ 58) :
    frameCommand .control (commandWords seq channel i.toByte tag target params)
      = i.row .control (commandWords seq channel i.toByte tag target params) params.head? := by
  rw [frameCommand_commandWords hlen]
  simp only [commandRow, codeOf_append, CommandCode.ofByte_immediate, List.getElem?_cons_succ, List.head?_eq_getElem?]

/-- The codes outside the table name no command. -/
theorem ofByte_eq_none : ∀ b : Byte, b.toNat = 0 ∨ (17 < b.toNat ∧ b.toNat < 32) ∨ 35 < b.toNat →
    CommandCode.ofByte b = none := by
  decide

/-- The words of a code outside the table are no row. -/
theorem frameCommand_unknown (hlen : params.length ≤ 58)
    (h : code.toNat = 0 ∨ (17 < code.toNat ∧ code.toNat < 32) ∨ 35 < code.toNat) :
    frameCommand .control (commandWords seq channel code tag target params) = none := by
  rw [frameCommand_commandWords hlen]
  simp only [commandRow, codeOf_append, ofByte_eq_none code h]

end

/-- Settles O11: the codes by their definition; the words of each code as the row of its command, which for RESELECT,
COUNTERS-READ and RESET-PART reads one word more. -/
theorem commandWordsAreTheirRow : Obligations.CommandWordsAreTheirRow := by
  refine ⟨fun q => by cases q <;> rfl, fun i => by cases i <;> rfl, fun seq tag code channel target params hlen => ?_⟩
  intro ws is
  have queued (q : QueuedCode) (hcode : code = q.toByte) :
      frameCommand .control ws = some (q.row .control ws (some target)) := by
    subst hcode; exact frameCommand_queued q hlen
  have immediate (i : ImmediateCode) (hcode : code = i.toByte) :
      frameCommand .control ws = i.row .control ws params.head? := by
    subst hcode; exact frameCommand_immediate i hlen
  refine ⟨queued .nop, queued .bind, queued .unbind, queued .setContext, queued .hold, queued .resume,
    fun h ht => ?_, fun h ht => ?_, queued .contextRead, fun h ht => ?_, fun h ht => ?_, queued .mapWrite,
    queued .mapRead, queued .profileStage, queued .profileDiscard, queued .profileCommit, queued .profileRead,
    queued .setPart, queued .capture, immediate .ackReports, immediate .abort, immediate .status,
    fun h hscope => ?_, fun h hscope => ?_, fun h hfull hcontexts => ?_, frameCommand_unknown hlen⟩
  · simp only [is, queued .reselect h, QueuedCode.row, Option.some.injEq, if_neg ht]
  · simp only [is, queued .reselect h, QueuedCode.row, Option.some.injEq, if_pos ht]
  · simp only [is, queued .countersRead h, QueuedCode.row, Option.some.injEq, if_neg ht]
  · simp only [is, queued .countersRead h, QueuedCode.row, Option.some.injEq, if_pos ht]
  · simp only [is, immediate .resetPart h, ImmediateCode.row, if_pos hscope]
  · have hother : params.head? ≠ some 0 := by rw [hscope]; decide
    simp only [is, immediate .resetPart h, ImmediateCode.row, if_neg hother, if_pos hscope]
  · simp only [immediate .resetPart h, ImmediateCode.row, if_neg hfull, if_neg hcontexts]

/-! ### PASS and CYCLE frames (R26 to R30, R183) -/

theorem exec_of_hearsFrame {c : Instr} {p : Port} {ws : List Word} {u : FrameUse} {f : Frame} {s : State}
    (hc : c.frame? = some (p, ws)) (hs : HearsFrame s p ws u f) : exec c s = .next (handOn u f (heardAt p s)) := by
  rw [exec_of_frame hc, frameArrives_of_hears hs]

/-- Settles O12: the queue of the direction has a place or not. -/
theorem passFramesQueueOrDrop : Obligations.PassFramesQueueOrDrop := by
  intro s ws f
  refine ⟨fun hs => ?up, fun hs => ?down⟩
  case up =>
    have hwords := words_of_receive hs.2.2
    intro h
    rw [exec_of_hearsFrame rfl hs]
    simp only [handOn, passUpArrives, hwords, heardAt_upQueue]
    split <;> rfl
  case down =>
    have hwords := words_of_receive hs.2.2
    intro h
    rw [exec_of_hearsFrame rfl hs]
    simp only [handOn, passDownArrives, hwords, heardAt_downQueue]
    split <;> rfl

/-- A taken mark, whatever the slot held (R29, R30). -/
theorem takeMark_eq (r : Word) (s : State) :
    takeMark r s
      = { s with
          lastCycle := some r
          cycleSlot := some r
          marks :=
            { silence := s.marks.silence + 1, lifetime := s.marks.lifetime + 1, budget := s.marks.budget + 1,
              commit := s.marks.commit + 1, capture := s.marks.capture + 1 }
          part :=
            { s.part with
              cyclesTaken := satAdd s.part.cyclesTaken 1
              copiesReplaced :=
                if s.cycleSlot = none then s.part.copiesReplaced else satAdd s.part.copiesReplaced 1 } } := by
  unfold takeMark
  cases s.cycleSlot <;> rfl

/-- Settles O13: the payload is malformed, or its number repeats the last, is the first, follows it or skips. -/
theorem cycleFrameBecomesAMark : Obligations.CycleFrameBecomesAMark := by
  intro s ws f hs h
  rw [exec_of_hearsFrame rfl hs]
  refine ⟨fun hmalformed => ?malformed, fun r hpayload => ⟨fun hlast => ?duplicate, fun hlast => ?taken⟩⟩
  case malformed =>
    have hbad : cycleArrives f.payload (heardAt .control s)
        = countPart (fun k => { k with cyclesMalformed := satAdd k.cyclesMalformed 1 }) (heardAt .control s) := by
      unfold cycleArrives
      split
      case h_1 r hr => simp [hr] at hmalformed
      case h_2 => rfl
    simp only [handOn, hbad]
    rfl
  case duplicate =>
    simp only [handOn, hpayload, cycleArrives, heardAt_lastCycle, hlast, if_true]
    rfl
  case taken =>
    simp only [handOn, hpayload, cycleArrives, heardAt_lastCycle]
    cases hl : s.lastCycle with
    | none =>
      rw [takeMark_eq, heardAt_cycleSlot]
      rfl
    | some n =>
      have hnew : r ≠ n := fun hr => hlast (hr ▸ hl)
      simp only [if_neg hnew, Option.any_some, Option.getD_some]
      by_cases hnext : r = n + 1
      · simp only [hnext, if_true, ne_eq, not_true, decide_false, Bool.false_eq_true, if_false]
        rw [takeMark_eq, heardAt_cycleSlot]
        rfl
      · simp only [hnext, ne_eq, not_false_eq_true, decide_true, if_true, if_false]
        rw [takeMark_eq]
        rfl

/-! ### The frames the part builds (R30, R115, R195) -/

/-- A frame the part builds, from its own address 31, with its payload spelled as numbers and the CRC told as that of the
words before it. -/
theorem frameWords_framed {kind : BitVec 4} {dst : BitVec 5} {seq : Byte} {channel : BitVec 3}
    {payload spelled : List Word} (hlen : payload.length ≤ 60) (hspelled : spelled = payload) :
    let words := frameWords kind dst 31 seq channel payload
    words.length = spelled.length + 4
      ∧ words
        = natWord (4096 * kind.toNat + 128 * dst.toNat + 4 * 31) :: natWord (256 * seq.toNat + 32 * channel.toNat)
          :: natWord spelled.length :: (spelled ++ [crc words.dropLast]) := by
  subst hspelled
  refine ⟨frameWords_length .., ?_⟩
  rw [frameWords_eq_layout _ _ _ _ _ hlen]
  simp only [layout, List.dropLast_concat]
  rfl

/-- Two bit fields side by side as a number. -/
theorem toNat_append_eq {m n : Nat} (a : BitVec m) (b : BitVec n) : (a ++ b).toNat = 2 ^ n * a.toNat + b.toNat := by
  rw [BitVec.toNat_append, ← Nat.shiftLeft_add_eq_or_of_lt b.isLt, Nat.shiftLeft_eq, Nat.mul_comm]

theorem natWord_eq_of_toNat {w : Word} {n : Nat} (h : w.toNat = n) : natWord n = w := by
  rw [← h, natWord, BitVec.ofNat_toNat, BitVec.setWidth_eq]

/-- Two bytes side by side as a number. -/
theorem natWord_bytes (a b : Byte) : natWord (256 * a.toNat + b.toNat) = a ++ b :=
  natWord_eq_of_toNat (toNat_append_eq a b)

/-- R115: the flag word of a MEASURE frame. -/
theorem natWord_measureFlags (m : MeasureFrame) :
    natWord
        (2048 * m.context.val + (if m.stale then 1024 else 0) + (if m.gap then 512 else 0)
          + (if m.clamped then 256 else 0) + (if m.newProfile then 128 else 0) + m.unit.toNat)
      = BitVec.ofNat 5 m.context.val ++ BitVec.ofBool m.stale ++ BitVec.ofBool m.gap ++ BitVec.ofBool m.clamped
          ++ BitVec.ofBool m.newProfile ++ 0#3 ++ m.unit := by
  have hcontext : (BitVec.ofNat 5 m.context.val).toNat = m.context.val := by
    rw [BitVec.toNat_ofNat]; exact Nat.mod_eq_of_lt m.context.isLt
  have hflag (b : Bool) (n : Nat) : (if b then n else 0) = n * (BitVec.ofBool b).toNat := by cases b <;> simp
  refine natWord_eq_of_toNat ?_
  simp only [toNat_append_eq, hcontext, hflag, BitVec.toNat_ofNat]
  omega

/-- R115: the profile and the epoch of a MEASURE frame. -/
theorem natWord_profileEpoch (profile : BitVec 6) (epoch : Byte) :
    natWord (256 * profile.toNat + epoch.toNat) = 0#2 ++ profile ++ epoch := by
  refine natWord_eq_of_toNat ?_
  simp only [toNat_append_eq, BitVec.toNat_ofNat]
  omega

/-- Settles O53: the CRC bit by bit, and each frame as the layout of its kind with its payload words as numbers. -/
theorem builtFramesHaveTheirLayouts : Obligations.BuiltFramesHaveTheirLayouts := by
  unfold Obligations.BuiltFramesHaveTheirLayouts
  intro framed outcomeCode shifted
  refine ⟨rfl, fun ws w => ?crc, fun n => ?copy, fun m hvalues => ?measure,
    fun r => ⟨fun tag code outcome stage context data hbody hdata => ?completion,
      fun owner kind count detail hbody hdetail => ?event⟩⟩
  case crc => rw [crc_append, crcWord_toNat]
  case copy =>
    have hframed := frameWords_framed (kind := kindCycle) (dst := 30) (seq := n.setWidth 8) (channel := 0) (payload := [n])
      (by simp) rfl
    rwa [BitVec.toNat_setWidth] at hframed
  case measure =>
    have hcount : (m.values.flatMap wordPair).length = 2 * m.values.length := by
      rw [List.length_flatMap]; simp [wordPair, Nat.mul_comm]
    have hpairs : (m.values.flatMap fun v => [natWord (v.toNat / 65536), natWord v.toNat]) = m.values.flatMap wordPair := by
      congr 1
      exact funext fun v => (wordPair_eq v).symm
    refine frameWords_framed ?_ ?_
    · rw [List.length_append, hcount, List.length_cons, List.length_cons, List.length_singleton]; omega
    rw [natWord_measureFlags, natWord_profileEpoch, hpairs]
  case completion =>
    have hpayload : r.payload
        = [r.seq, 0, code ++ tag, outcome.code ++ stage, context.setWidth 16] ++ data := by
      simp only [Report.payload, hbody]
    have hcode : outcomeCode outcome = outcome.code.toNat := by cases outcome <;> rfl
    have hseq : r.seq.toNat % 256 = (r.seq.setWidth 8).toNat := (BitVec.toNat_setWidth 8 r.seq).symm
    rw [hseq, hcode, natWord_bytes, natWord_bytes]
    refine frameWords_framed (payload := r.payload) ?_ ?_
    · rw [hpayload, List.length_append]; simp; omega
    · rw [hpayload, natWord, BitVec.ofNat_toNat]
  case event =>
    have hpayload : r.payload = [r.seq, 1, owner.word, kind.setWidth 8 ++ count] ++ detail := by
      simp only [Report.payload, hbody]
    have hkind : kind.toNat = (kind.setWidth 8).toNat := by rw [BitVec.toNat_setWidth]; omega
    have hseq : r.seq.toNat % 256 = (r.seq.setWidth 8).toNat := (BitVec.toNat_setWidth 8 r.seq).symm
    rw [hseq, hkind, natWord_bytes]
    refine frameWords_framed (payload := r.payload) ?_ ?_
    · rw [hpayload, List.length_append]; simp; omega
    · rw [hpayload]; cases owner <;> rfl

end Sys2Proof.Machine
end

section
/-! SUPPORT. The event latches (R11, R172) and the taking of a cycle mark by each of the five blocks (R34, R49, R86, R109,
R149, R151), with the repair of a context at a commit (R87 to R90). -/

namespace Sys2Proof.Machine

set_option Elab.async false

open Sys2Proof.Safety

/-! ### Saturating counts -/

theorem satAdd_one {w : Nat} (x : BitVec w) :
    satAdd x 1 = if x = BitVec.allOnes w then BitVec.allOnes w else x + 1 := by
  have hx := x.isLt
  have hone : (1 : BitVec w) = BitVec.ofNat w 1 := rfl
  have htop : x = BitVec.allOnes w ↔ x.toNat = 2 ^ w - 1 := by rw [BitVec.toNat_eq, BitVec.toNat_allOnes]
  rw [satAdd]
  by_cases h : x.toNat + 1 < 2 ^ w
  · rw [if_pos h, if_neg (by rw [htop]; omega), hone]
  · rw [if_neg h, if_pos (by rw [htop]; omega)]

/-- A detail word takes an occurrence up to 65535 (R172). -/
theorem satAdd_word (o n : Word) : satAdd o n.toNat = BitVec.ofNat 16 (min 65535 (o.toNat + n.toNat)) := by
  apply BitVec.eq_of_toNat_eq
  rw [satAdd, BitVec.toNat_ofNat]
  split
  · rw [BitVec.toNat_add, BitVec.toNat_ofNat]; omega
  · rw [BitVec.toNat_allOnes]; omega

/-! ### The event latches (R11, R172) -/

/-- A kind is admitted where its bit of the report mask is set. -/
theorem Context.admits_iff (c : Context) (k : ContextKind) :
    c.admits k = true ↔ c.reportMask.toNat / 2 ^ (k.code.toNat - 1) % 2 = 1 := by
  rw [Context.admits, BitVec.getLsbD, Nat.testBit_eq_decide_div_mod_eq, decide_eq_true_eq]

/-- Settles O14: an entry as the latch takes it, the three ways of coalescing, and the mask with the numbers of the
kinds. -/
theorem latchingCountsAndCoalesces : Obligations.LatchingCountsAndCoalesces := by
  refine ⟨fun code how detail l other => ?entry, fun _ _ => rfl, fun o n old new => ?first, fun old new k o n ho hn => ?all,
    fun k detail c => ?kind⟩
  case entry =>
    rw [latchAdd_get]
    by_cases h : code = other
    · rw [if_pos h, if_neg (not_not.2 h.symm)]
      cases Table.get code l with
      | none => rfl
      | some e => exact congrArg (fun n => some (LatchEntry.mk n (coalesce how e.detail detail))) (satAdd_one e.count)
    · rw [if_neg h, if_pos (Ne.symm h)]
  case first => rw [coalesce, satAdd_word]
  case all =>
    rw [coalesce, List.getElem?_zipWith, ho, hn]
    exact congrArg some (satAdd_word o n)
  case kind =>
    intro number
    have hmask : c.admits k = true ↔ c.reportMask.toNat / 2 ^ (number - 1) % 2 = 1 := by
      rw [Context.admits_iff]; cases k <;> rfl
    by_cases h : c.admits k = true
    · rw [Context.latchKind, if_pos h, if_pos (hmask.1 h)]
      cases k <;> rfl
    · rw [Context.latchKind, if_neg h, if_neg (mt hmask.2 h)]

/-! ### Silence, lifetimes and budgets (R34, R49, R109) -/

theorem exec_silenceSupervision {s : State} {n : Nat} (hreleased : s.resetHeld = false) (hmark : s.marks.silence = n + 1) :
    exec .silenceSupervision s
      = .next (State.mapContexts Context.superviseSilence { s with marks := { s.marks with silence := n } }) := by
  refine congrArg Host.Outcome.next ((State.live_of_released hreleased _).trans ?_)
  simp only [superviseSilence, hmark, Nat.add_eq_zero_iff, one_ne_zero, and_false, if_false, Nat.add_sub_cancel]

/-- Settles O15: the mark is taken, and each record is supervised on its own. -/
theorem silenceIsCountedAndLatchedOnce : Obligations.SilenceIsCountedAndLatchedOnce := by
  intro s n hreleased hmark
  refine ⟨_, exec_silenceSupervision hreleased hmark, rfl, fun i => ?_⟩
  intro c count
  have hcount : c.nextSilence = count := satAdd_one _
  rw [State.context_mapContexts]
  change c.superviseSilence = _
  simp only [Context.superviseSilence, hcount, Bool.or_eq_true, decide_eq_true_eq, Bool.and_eq_true,
    Bool.not_eq_true']

theorem exec_lifetimeCountdown {s : State} {n : Nat} (hreleased : s.resetHeld = false) (hmark : s.marks.lifetime = n + 1) :
    exec .lifetimeCountdown s
      = .next
        (arbitrate
          (endCaptureIfStale s (State.mapContexts Context.countDown { s with marks := { s.marks with lifetime := n } }))) := by
  refine congrArg Host.Outcome.next ((State.live_of_released hreleased _).trans ?_)
  simp only [countLifetimes, hmark, Nat.add_eq_zero_iff, one_ne_zero, and_false, if_false, Nat.add_sub_cancel]

theorem Context.turnsStale_iff (c : Context) : c.turnsStale = true ↔ c.counted = true ∧ c.remaining.toNat ≤ 1 := by
  rw [Context.turnsStale, Bool.and_eq_true, decide_eq_true_eq]

/-- The countdown of a context by the cases of its statement. -/
theorem Context.countDown_eq (c : Context) :
    c.countDown
      = if c.counted then
          if c.remaining = 0 ∨ c.remaining = 1 then
            Context.latchKind .descStale [c.lifetime.setWidth 16, c.epoch.setWidth 16]
              { c with remaining := 0, state := .stale }
          else { c with remaining := c.remaining - 1 }
        else c := by
  have hlast : c.remaining.toNat ≤ 1 ↔ c.remaining = 0 ∨ c.remaining = 1 := by bv_omega
  have hturns := c.turnsStale_iff
  rw [hlast] at hturns
  rw [Context.countDown]
  by_cases hcounted : c.counted = true
  · simp only [hturns, hcounted, true_and, if_true]
  · simp only [hturns, hcounted, false_and, if_false, Bool.false_eq_true]

/-- Settles O16: every record counts down on its own, and the capture ends where its context turns STALE. -/
theorem lifetimeRunsOutIntoStale : Obligations.LifetimeRunsOutIntoStale := by
  intro s n hreleased hmark counted after t
  have hmapped : State.mapContexts Context.countDown { s with marks := { s.marks with lifetime := n } } = t := by
    simp only [State.mapContexts, Context.countDown_eq]
    rfl
  rw [exec_lifetimeCountdown hreleased hmark, hmapped]
  refine ⟨fun k hk hcounted hlast => ?ends, fun hkeeps => ?goesOn⟩
  case ends =>
    have hturns : (s.context k.context).turnsStale = true := (Context.turnsStale_iff _).2 ⟨hcounted, hlast⟩
    have hcapture : t.capture = some k := hk
    simp only [endCaptureIfStale, hcapture, hturns, if_true]
    rw [endCapture_eq (by decide)]
  case goesOn =>
    have hstays : endCaptureIfStale s t = t := by
      unfold endCaptureIfStale
      split
      case h_1 k hk =>
        have hturns : ¬ (s.context k.context).turnsStale = true := fun h => by
          obtain ⟨hcounted, hlast⟩ := (Context.turnsStale_iff _).1 h
          obtain hnot | hmore := hkeeps k hk
          · exact absurd hcounted (Bool.eq_false_iff.1 hnot)
          · omega
        exact if_neg hturns
      case h_2 => rfl
    rw [hstays]

/-- Settles O17: the mark is taken, and each budget is its quota. -/
theorem budgetsReloadToTheirQuotas : Obligations.BudgetsReloadToTheirQuotas := by
  intro s n hreleased hmark
  refine ⟨State.mapContexts Context.reload { s with marks := { s.marks with budget := n } }, ?_, rfl, fun i => ?_⟩
  · refine congrArg Host.Outcome.next ((State.live_of_released hreleased _).trans ?_)
    simp only [reloadBudgets, hmark, Nat.add_eq_zero_iff, one_ne_zero, and_false, if_false, Nat.add_sub_cancel]
  · rw [State.context_mapContexts]; rfl

/-! ### The end of the executing command (R131, R134) -/

theorem finishHead_of_cons {s : State} {c : Command} {rest : List Command} (h : s.commandQueue = c :: rest)
    (o : CommandOutcome) (stage : Byte) (data : List Word) :
    finishHead o stage data s = queueFinal c o stage data { s with commandQueue := rest, executing := false } := by
  rw [finishHead, h]

theorem resumeQueue_done (s : State) : resumeQueue .done s = runQueue s.commandQueue s := if_pos rfl

/-! ### The commit (R86 to R90) -/

theorem exec_commit {s : State} {n : Nat} (hreleased : s.resetHeld = false) (hmark : s.marks.commit = n + 1) :
    exec .commit s
      = .next
        (if s.commitPending then arbitrate (applyCommit { s with marks := { s.marks with commit := n } })
        else { s with marks := { s.marks with commit := n } }) := by
  refine congrArg Host.Outcome.next ((State.live_of_released hreleased _).trans ?_)
  simp only [takeCommitMark, hmark, Nat.add_eq_zero_iff, one_ne_zero, and_false, if_false, Nat.add_sub_cancel]

/-- Settles O18: with a commit pending the table is that of the staged records, and the head of the queue completes. -/
theorem commitAppliesTheStagingArea : Obligations.CommitAppliesTheStagingArea := by
  intro s n hreleased hmark m
  rw [exec_commit hreleased hmark]
  refine ⟨fun hnone => ?nothing, fun c rest hpending hqueue hnodup =>
    ⟨applyStaged s.staging s.profiles, applyStaged_get hnodup, ?applied⟩⟩
  case nothing => exact congrArg Host.Outcome.next (if_neg (Bool.eq_false_iff.1 hnone))
  case applied =>
    intro repaired
    have hwords : commitWords m
        = [natWord s.staging.length, s.generation + 1, natWord (s.staging.countP fun e => e.record.isNone),
            natWord ((List.finRange 32).countP fun i => (repaired i).lost),
            natWord ((List.finRange 32).countP fun i => (repaired i).gained)] := by
      simp only [commitWords, State.countContexts_eq]; rfl
    have hhead : ((commitTable m).mapContexts fun c => (m.repair c).context).commandQueue = c :: rest := hqueue
    rw [if_pos hpending, applyCommit, hwords, finishHead_of_cons hhead, resumeQueue_done, queueFinal_commandQueue]
    rfl

/-- A profile is retired where its record is valid before and a retirement of it is staged (R87). -/
theorem retires_iff (before : Table 6 Profile) (staging : List Staged) (p : BitVec 6) :
    retires before staging p = true
      ↔ (Table.get p before).isSome ∧ ∃ e ∈ staging, e.target = p ∧ e.record = none := by
  simp only [retires, validProfile, Bool.and_eq_true, List.any_eq_true, decide_eq_true_eq, Option.isNone_iff_eq_none]

/-- R88: what a FIXED context without a profile becomes. -/
theorem Context.giveFixed_of_no_profile {c : Context} (h : c.activeProfile = none) (after : Table 6 Profile)
    (q : BitVec 6) :
    c.giveFixed after q
      = if c.descriptor.isSome ∧ (Table.get q after).isSome then
          { c with
            activeProfile := some q, newProfile := true, state := if c.state = .stale then .stale else .active }
        else c := by
  have hnone : c.activeProfile.isNone = true := by rw [h]; rfl
  have hdiffers : (some q != c.activeProfile) = true := by rw [h]; rfl
  simp only [Context.giveFixed, hnone, validProfile, Bool.and_eq_true, and_true, Context.chooseProfile, hdiffers,
    Option.isSome_some, Bool.and_self, Bool.or_true]
  rfl

/-- Settles O19: by the active profile, by whether the commit retires it, and by the mode. -/
theorem commitRepairsEachContext : Obligations.CommitRepairsEachContext := by
  intro map before after staging generation c r retired
  refine ⟨fun p hp hretired => ?lost, fun p hp hkept => ?kept, fun hnone hauto hunmapped => ?run,
    fun hnone hauto hother => ?left, fun q hnone hfixed => ?fixed⟩
  case lost =>
    intro bare run
    have hrun : (match c.mode with
        | .auto => c.loseProfile.selectionRun map after
        | .fixed q => c.loseProfile.giveFixed after q) = run := by
      cases hmode : c.mode with
      | auto => simp only [run, hmode]; rfl
      | fixed q =>
        have hstale : (if c.state = .active then ContextState.unmapped else c.state) = .stale ↔ c.state = .stale := by
          cases c.state <;> decide
        simp only [run, hmode]
        rw [Context.giveFixed_of_no_profile (c := c.loseProfile) rfl]
        simp only [Context.loseProfile, bare, hstale]
    simp only [r, repairContext, hp, if_pos ((retires_iff _ _ _).2 hretired)]
    exact congrArg
      (fun x : Context =>
        ({ context := x.latchKind .profileRetired [p.setWidth 16, generation, profileWord x.activeProfile],
           lost := true, gained := x.activeProfile.isSome } : Repair))
      hrun
  case kept => simp only [r, repairContext, hp, if_neg (mt (retires_iff _ _ _).1 hkept)]
  case run => simp only [r, repairContext, hnone, hauto, if_pos hunmapped]
  case left => simp only [r, repairContext, hnone, hauto, if_neg hother, Option.isSome_none]
  case fixed =>
    have hgiven := Context.giveFixed_of_no_profile hnone after q
    split
    case isTrue hvalid => simp only [r, repairContext, hnone, hfixed, hgiven, if_pos hvalid, Option.isSome_some]
    case isFalse hinvalid =>
      simp only [r, repairContext, hnone, hfixed, hgiven, if_neg hinvalid, Option.isSome_none]

/-! ### The Capture Unit (R149, R151) -/

theorem exec_captureCycleMark {s : State} (hreleased : s.resetHeld = false) :
    exec .captureCycleMark s = .next (takeCaptureMark s) :=
  congrArg Host.Outcome.next (State.live_of_released hreleased _)

section
variable {s : State} {n : Nat} (hmark : s.marks.capture = n + 1)
include hmark

theorem takeCaptureMark_of_none (h : s.capture = none) :
    takeCaptureMark s = { s with marks := { s.marks with capture := n } } := by
  simp only [takeCaptureMark, hmark, Nat.add_eq_zero_iff, one_ne_zero, and_false, if_false, Nat.add_sub_cancel, h]

theorem takeCaptureMark_of_some {k : Capture} (h : s.capture = some k) :
    takeCaptureMark s = captureMark k { s with marks := { s.marks with capture := n } } := by
  simp only [takeCaptureMark, hmark, Nat.add_eq_zero_iff, one_ne_zero, and_false, if_false, Nat.add_sub_cancel, h]

end

/-- Settles O20: by the capture and its stage. -/
theorem captureMarkArmsCountsOrTimesOut : Obligations.CaptureMarkArmsCountsOrTimesOut := by
  refine ⟨rfl, rfl, fun s n hreleased hmark => ?_⟩
  intro m
  rw [exec_captureCycleMark hreleased]
  refine ⟨fun hnone => by rw [takeCaptureMark_of_none hmark hnone], fun k hk => ?_⟩
  rw [takeCaptureMark_of_some hmark hk]
  refine ⟨fun harmed => ?armed, fun hcollecting hmore => ?counts, fun hcollecting hlast hfew => ?timeout⟩
  case armed => simp only [captureMark, harmed, m]
  case counts =>
    simp only [captureMark, hcollecting]
    rw [if_neg (by simpa using hmore)]
  case timeout =>
    simp only [captureMark, hcollecting]
    rw [if_pos (by simp [hlast, hfew]), endCapture_eq (by decide), hlast]
    rfl

end Sys2Proof.Machine
end

section
/-! SUPPORT. SAMPLE frames: unbound and old ones (R96, R99), the tracking of an accepted one (R97, R98, R100), the length check
(R101, R102, R106), steps 4 to 8 (R104 to R116), and the tap of a collecting capture (R103, R150 to R155). -/

namespace Sys2Proof.Machine

set_option Elab.async false

open Sys2Proof.Safety

/-! ### Unbound frames (R96) -/

@[simp] theorem heardAt_resolve (p : Port) (s : State) (k : Key) : (heardAt p s).resolve k = s.resolve k := by
  simp only [State.resolve, heardAt_streamMap]

/-- The key word of UNBOUND_TRAFFIC as a number. -/
theorem Key.word_eq (k : Key) : k.word = natWord (256 * k.node.toNat + k.channel.toNat) := by
  have hnode : k.node.toNat = (k.node.setWidth 8).toNat := by rw [BitVec.toNat_setWidth]; omega
  have hchannel : k.channel.toNat = (k.channel.setWidth 8).toNat := by rw [BitVec.toNat_setWidth]; omega
  rw [hnode, hchannel, natWord_bytes, Key.word]

section
variable {s : State} {ws : List Word} {f : Frame}

theorem exec_sample_of_unbound (hs : HearsFrame s .field ws .sample f) (hkey : s.resolve (frameKey f) = none) :
    exec (.sample .field ws) s = .next (arbitrate (unboundTraffic (frameKey f) kindSample (heardAt .field s))) := by
  have hheard : (heardAt .field s).resolve (frameKey f) = none := (heardAt_resolve ..).trans hkey
  rw [exec_of_hearsFrame rfl hs]
  simp only [handOn, sampleArrives]
  rw [← frameKey, hheard]

theorem exec_describe_of_unbound (hs : HearsFrame s .field ws .describe f) (hkey : s.resolve (frameKey f) = none) :
    exec (.describe .field ws) s = .next (arbitrate (unboundTraffic (frameKey f) kindDescribe (heardAt .field s))) := by
  have hheard : (heardAt .field s).resolve (frameKey f) = none := (heardAt_resolve ..).trans hkey
  rw [exec_of_hearsFrame rfl hs]
  simp only [handOn, describeArrives]
  rw [← frameKey, hheard]

theorem exec_sample_of_resolved {i : Fin 32} (hs : HearsFrame s .field ws .sample f)
    (hkey : s.resolve (frameKey f) = some i) :
    exec (.sample .field ws) s = .next (arbitrate (sampleContext i f.seq f.payload (heardAt .field s))) := by
  have hheard : (heardAt .field s).resolve (frameKey f) = some i := (heardAt_resolve ..).trans hkey
  rw [exec_of_hearsFrame rfl hs]
  simp only [handOn, sampleArrives]
  rw [← frameKey, hheard]

theorem exec_describe_of_resolved {i : Fin 32} (hs : HearsFrame s .field ws .describe f)
    (hkey : s.resolve (frameKey f) = some i) :
    exec (.describe .field ws) s = .next (arbitrate (describeContext i f.payload (heardAt .field s))) := by
  have hheard : (heardAt .field s).resolve (frameKey f) = some i := (heardAt_resolve ..).trans hkey
  rw [exec_of_hearsFrame rfl hs]
  simp only [handOn, describeArrives]
  rw [← frameKey, hheard]

end

/-- Settles O21: an unbound frame is latched with its key, and one behind the tracker is a duplicate. -/
theorem unboundAndOldFramesAreDiscarded : Obligations.UnboundAndOldFramesAreDiscarded := by
  intro s ws f h unbound
  have latched (kind : BitVec 4) : unboundTraffic (frameKey f) kind h = unbound (kind.setWidth 16) := by
    simp only [unboundTraffic, latchPart, Key.word_eq, unbound]
    rfl
  refine ⟨fun hs hkey => ?sample, fun hs hkey => ?describe, fun i e hs hkey htracker hbehind => ?old⟩
  case sample => rw [exec_sample_of_unbound hs hkey, latched]; rfl
  case describe => rw [exec_describe_of_unbound hs hkey, latched]; rfl
  case old =>
    have hclass : (s.context i).tracker.classify f.seq = .old := by
      rw [htracker]
      exact if_neg (Nat.not_lt.2 hbehind)
    rw [exec_sample_of_resolved hs hkey]
    simp only [sampleContext, heardAt_context, hclass]
    rfl

/-! ### The tracking of an accepted frame (R97, R98, R100) -/

theorem satAdd_zero {w : Nat} (x : BitVec w) : satAdd x 0 = x := by
  rw [satAdd, if_pos (by have := x.isLt; omega), BitVec.add_zero]

theorem classify_of_acceptsAfter {c : Context} {q : Byte} {d : Nat} (h : AcceptsAfter c q d) :
    c.tracker.classify q = .accepted d := by
  obtain ⟨htracker, rfl⟩ | ⟨e, htracker, rfl, hnear⟩ := h <;> rw [htracker]
  · rfl
  · exact if_pos hnear

/-- Accepting a frame and latching a kind do not meet: the one moves no latch and no mask, the other nothing else. -/
theorem accept_latchKind (k : ContextKind) (detail : List Word) (q : Byte) (c : Context) :
    (c.latchKind k detail).accept q = (c.accept q).latchKind k detail := by
  by_cases h : c.admits k = true
  · have hafter : (c.accept q).admits k = true := h
    rw [Context.latchKind, if_pos h, Context.latchKind, if_pos hafter]
    rfl
  · have hafter : ¬ (c.accept q).admits k = true := h
    rw [Context.latchKind, if_neg h, Context.latchKind, if_neg hafter]

/-- The record of an accepted frame, the gap noted first. -/
theorem accept_noteGap (d : Nat) (q : Byte) (c : Context) : (c.noteGap d q).accept q = acceptedRecord q d c := by
  unfold Context.noteGap acceptedRecord
  by_cases hd : d = 0
  · subst hd
    rw [if_pos rfl, if_pos rfl, satAdd_zero]
    rfl
  · rw [if_neg hd, if_neg hd, accept_latchKind]
    rfl

@[simp] theorem acceptedRecord_descriptor (q : Byte) (d : Nat) (c : Context) :
    (acceptedRecord q d c).descriptor = c.descriptor := by
  unfold acceptedRecord
  split <;> simp

section
variable {s : State} {i : Fin 32} {q : Byte} {d : Nat} {payload : List Word}
  (haccepts : AcceptsAfter (s.context i) q d)
include haccepts

/-- An accepted frame of a context without a descriptor is discarded. -/
theorem sampleContext_of_no_descriptor (hnone : (s.context i).descriptor = none) :
    sampleContext i q payload s = s.setContext i ((acceptedRecord q d (s.context i)).discard .noDescriptor) := by
  simp only [sampleContext, classify_of_acceptsAfter haccepts, accept_noteGap, acceptedRecord_descriptor, hnone]

variable {desc : Descriptor} (hdesc : (s.context i).descriptor = some desc)
include hdesc

/-- An accepted frame whose length does not fit the encoding is malformed. -/
theorem sampleContext_of_not_allowed (hbad : ¬ AllowedLength desc.encoding payload.length) :
    sampleContext i q payload s
      = s.setContext i ((acceptedRecord q d (s.context i)).noteMalformed payload.length desc.encoding) := by
  have hfits : (!lengthFits desc.encoding payload.length) = true := by
    rw [Bool.not_eq_true', ← Bool.not_eq_true, lengthFits_iff]; exact hbad
  simp only [sampleContext, classify_of_acceptsAfter haccepts, accept_noteGap, acceptedRecord_descriptor, hdesc,
    if_pos hfits]

/-- An accepted frame of an allowed length goes through the tap to steps 4 to 8. -/
theorem sampleContext_of_allowed (hlen : AllowedLength desc.encoding payload.length) :
    sampleContext i q payload s
      = tapAround i (0 < d) (rawSamples desc.encoding payload)
          (deliverSample i (0 < d) (rawSamples desc.encoding payload))
          (s.setContext i (acceptedRecord q d (s.context i))) := by
  have hfits : ¬ (!lengthFits desc.encoding payload.length) = true := by
    rw [Bool.not_eq_true', Bool.not_eq_false, lengthFits_iff]; exact hlen
  simp only [sampleContext, classify_of_acceptsAfter haccepts, accept_noteGap, acceptedRecord_descriptor, hdesc,
    if_neg hfits]

end

/-- Settles O22: without a descriptor the frame is discarded, with a length that does not fit it is malformed. -/
theorem sampleIsTurnedAsideAtTheLengthCheck : Obligations.SampleIsTurnedAsideAtTheLengthCheck := by
  intro s ws f i d hs hkey haccepts c
  rw [← heardAt_context .field] at haccepts
  rw [exec_sample_of_resolved hs hkey]
  refine ⟨fun hnone => ?discarded, fun desc hdesc hbad => ?malformed⟩
  case discarded =>
    have hnone : ((heardAt .field s).context i).descriptor = none := by
      rw [heardAt_context, ← acceptedRecord_descriptor f.seq d]; exact hnone
    rw [sampleContext_of_no_descriptor haccepts hnone, heardAt_context]
    rfl
  case malformed =>
    have hdesc : ((heardAt .field s).context i).descriptor = some desc := by
      rw [heardAt_context, ← acceptedRecord_descriptor f.seq d]; exact hdesc
    have hlen : ¬ AllowedLength desc.encoding f.payload.length := by
      unfold AllowedLength
      split at hbad
      case isTrue h24 => rw [if_pos h24]; omega
      case isFalse hone => rw [if_neg hone]; omega
    rw [sampleContext_of_not_allowed haccepts hdesc hlen, heardAt_context]
    rfl

/-! ### Steps 4 to 8 (R104 to R116) -/

/-- A frame that the context's state turns aside is counted and latched under its reason. -/
theorem deliverSample_of_discard {s : State} {i : Fin 32} {r : DiscardReason}
    (h : (s.context i).delivery = .discard r) (gap : Bool) (raws : List Int) :
    deliverSample i gap raws s = s.setContext i ((s.context i).discard r) := by
  simp only [deliverSample, h]

theorem deliverSample_of_through {s : State} {i : Fin 32} {index : BitVec 6} {stale : Bool} {p : Profile}
    (h : (s.context i).delivery = .through index stale) (hp : Table.get index s.profiles = some p) (gap : Bool)
    (raws : List Int) : deliverSample i gap raws s = conditionThrough i index p stale gap raws s := by
  simp only [deliverSample, h, hp]

section
variable {c : Context} (hheld : c.held = false)
include hheld

theorem delivery_of_unmapped (hstate : c.state = .unmapped) : c.delivery = .discard .unmapped := by
  simp only [Context.delivery, hheld, hstate, Bool.false_eq_true, if_false]

/-- A STALE context discards under DISCARD, and without a profile (R104). -/
theorem delivery_of_stale (hstate : c.state = .stale) (h : c.stalePolicy = .discard ∨ c.activeProfile = none) :
    c.delivery = .discard .stale := by
  simp only [Context.delivery, hheld, hstate, Bool.false_eq_true, if_false]
  cases hp : c.activeProfile with
  | none => rfl
  | some p =>
    obtain hpolicy | hnone := h
    · simp only [hpolicy, reduceCtorEq, if_false]
    · rw [hp] at hnone; cases hnone

/-- An ACTIVE context delivers, and a STALE one under FORWARD (R104). -/
theorem delivery_of_through {p : BitVec 6} (hp : c.activeProfile = some p)
    (h : c.state = .active ∨ (c.state = .stale ∧ c.stalePolicy = .forward)) :
    c.delivery = .through p (c.state = .stale) := by
  obtain hstate | ⟨hstate, hpolicy⟩ := h
  · simp only [Context.delivery, hheld, hstate, hp, Bool.false_eq_true, if_false]
    rfl
  · simp only [Context.delivery, hheld, hstate, hp, hpolicy, Bool.false_eq_true, if_false, if_true, decide_true]

end

theorem measureFrame_of_key {c : Context} {key : Key} (h : c.key = some key) (i : Fin 32) (index : BitVec 6) (p : Profile)
    (generation : Word) (stale gap : Bool) (raws : List Int) :
    measureFrame i c index p generation stale gap raws
      = { channel := key.channel, seq := c.outputSeq, context := i, stale := stale, gap := gap,
          clamped := raws.any p.clampsAt, newProfile := c.newProfile, unit := p.unit, profile := index,
          epoch := c.epoch, generation := generation, values := raws.map p.deliver } := by
  simp only [measureFrame, h]

/-- A frame at a context that no capture collects on goes straight to steps 4 to 8. -/
theorem tapAround_of_notTapped {s : State} {i : Fin 32} (h : NotTapped s i) (gap : Bool) (raws : List Int)
    (rest : State → State) : tapAround i gap raws rest s = rest s := by
  unfold tapAround
  split
  case h_1 => rfl
  case h_2 k hk =>
    refine if_neg fun htapped => ?_
    simp only [Bool.and_eq_true, decide_eq_true_eq] at htapped
    obtain ⟨hcontext, hcollecting⟩ := htapped
    have harmed := h k hk hcontext
    rw [hcollecting] at harmed
    cases harmed

/-- An accepted frame of an allowed length at the field port. -/
theorem exec_sample_of_allowed {s : State} {ws : List Word} {f : Frame} {i : Fin 32} {d : Nat} {desc : Descriptor}
    (hs : HearsFrame s .field ws .sample f) (hkey : s.resolve (frameKey f) = some i)
    (haccepts : AcceptsAfter (s.context i) f.seq d) (hdesc : (s.context i).descriptor = some desc)
    (hlen : AllowedLength desc.encoding f.payload.length) :
    exec (.sample .field ws) s
      = .next
        (arbitrate
          (tapAround i (0 < d) (rawSamples desc.encoding f.payload)
            (deliverSample i (0 < d) (rawSamples desc.encoding f.payload))
            ((heardAt .field s).setContext i (acceptedRecord f.seq d (s.context i))))) := by
  rw [← heardAt_context .field] at haccepts hdesc
  rw [exec_sample_of_resolved hs hkey, sampleContext_of_allowed haccepts hdesc hlen, heardAt_context]

/-- Settles O23: the rows of the delivery table, the three ways of a frame that may be delivered, and the accepted frame
that no capture collects. -/
theorem sampleIsDiscardedDroppedOrMeasured : Obligations.SampleIsDiscardedDroppedOrMeasured := by
  refine ⟨fun s i gap raws => ?steps, fun s ws f i d desc hs hkey haccepts hdesc hlen hfree => ?frame⟩
  case steps =>
    intro c discarded
    refine ⟨fun hheld => ?held, fun hheld hstate => ?unmapped, fun hheld hstate h => ?stale,
      fun key p record hkey hheld hp hrecord hstate => ?through⟩
    case held => exact deliverSample_of_discard (r := .held) (if_pos hheld) gap raws
    case unmapped => exact deliverSample_of_discard (delivery_of_unmapped hheld hstate) gap raws
    case stale => exact deliverSample_of_discard (delivery_of_stale hheld hstate h) gap raws
    case through =>
      intro outside v
      have hthrough : (s.context i).delivery = .through p (c.state = .stale) := delivery_of_through hheld hp hstate
      have hv : (s.context i).noteConversion record raws = v := rfl
      have hvkey : v.key = some key := hkey
      rw [deliverSample_of_through hthrough hrecord]
      simp only [conditionThrough, hv, Bool.and_eq_true, decide_eq_true_eq, measureFrame_of_key hvkey]
      rfl
  case frame =>
    rw [exec_sample_of_allowed hs hkey haccepts hdesc hlen,
      tapAround_of_notTapped fun k hk => hfree k (by rwa [State.setContext_capture, heardAt_capture] at hk)]

/-! ### The tap of a collecting capture (R103, R150 to R155) -/

section
variable {s : State} {i : Fin 32} {k : Capture} (hk : s.capture = some k) (hcontext : k.context = i)
  (hcollecting : k.stage = .collecting) {gap : Bool} {raws : List Int} {rest : State → State}
include hk hcontext hcollecting

/-- A frame that leaves the count below N is collected, and its handling goes on. -/
theorem tapAround_of_more (hmore : (k.collect raws gap).count ≠ (k.collect raws gap).n) :
    tapAround i gap raws rest s = rest { s with capture := some (k.collect raws gap) } := by
  simp only [tapAround, hk, hcontext, hcollecting, decide_true, Bool.and_self, if_true, if_neg hmore]

/-- A frame that brings the count to N ends the capture, and the commands behind follow its handling. -/
theorem tapAround_of_last (hlast : (k.collect raws gap).count = (k.collect raws gap).n) {e : CaptureEnding}
    (he : (k.collect raws gap).complete s = e) :
    tapAround i gap raws rest s
      = resumeQueue e.outcome
          (rest
            (reportCapture e.outcome e.stage (k.collect raws gap).mean e.field (k.collect raws gap)
              { s with staging := e.staging })) := by
  simp only [tapAround, hk, hcontext, hcollecting, decide_true, Bool.and_self, if_true, if_pos hlast, he]

end

/-- Settles O25: fewer samples than the capture needs are all taken. -/
theorem tappedSamplesAreCollected : Obligations.TappedSamplesAreCollected := by
  intro s ws f i d desc k hs hkey haccepts hdesc hlen hk hcontext hcollecting raws hfew
  have htaken : raws.take (k.n - k.count) = raws := List.take_of_length_le (by omega)
  have hmore : (k.collect raws (0 < d)).count ≠ (k.collect raws (0 < d)).n := by
    simp only [Capture.collect, htaken]; omega
  have hcapture : ((heardAt .field s).setContext i (acceptedRecord f.seq d (s.context i))).capture = some k := by
    rw [State.setContext_capture, heardAt_capture, hk]
  rw [exec_sample_of_allowed hs hkey haccepts hdesc hlen, tapAround_of_more hcapture hcontext hcollecting hmore]
  simp only [Capture.collect, htaken, decide_eq_true_eq]
  rfl

/-- The two words of a signed number as quotient and remainder (R155). -/
theorem wordPair_ofInt (x : Int) : wordPair (BitVec.ofInt 32 x) = [BitVec.ofInt 16 (x / 65536), BitVec.ofInt 16 x] := by
  rw [wordPair_eq, BitVec.toNat_ofInt]
  simp only [natWord, List.cons.injEq, and_true]
  constructor <;> apply BitVec.eq_of_toNat_eq <;> rw [BitVec.toNat_ofNat, BitVec.toNat_ofInt] <;> omega

/-- The source record of the capture, where its statement names one (R146). -/
theorem sourceRecord_eq_some {k : Capture} {s : State} {source : Profile}
    (h : match k.source with
      | .staging => stagedRecord k.profile s.staging = some (some source)
      | .table => Table.get k.profile s.profiles = some source) :
    sourceRecord k.source k.profile s = some source := by
  cases hsource : k.source <;> simp only [hsource] at h <;> simp only [sourceRecord, h, Option.join_some]

/-- How a completed collection ends, by its result and the place in the Staging Area (R152 to R154). -/
theorem complete_of_result {k : Capture} {s : State} {source record : Profile} {field : Int}
    (hsource : sourceRecord k.source k.profile s = some source) (hresult : k.result source = some (field, record)) :
    k.complete s
      = if stagingRoom k.profile s.staging then
          { outcome := .done, stage := 4, field := field,
            staging := stageRecord { target := k.profile, record := some record } s.staging }
        else { outcome := .stagingFull, stage := 3, field := field, staging := s.staging } := by
  simp only [Capture.complete, hsource, hresult]

theorem complete_of_no_result {k : Capture} {s : State} {source : Profile}
    (hsource : sourceRecord k.source k.profile s = some source) (hresult : k.result source = none) :
    k.complete s = { outcome := .spanRange, stage := 3, field := 0, staging := s.staging } := by
  simp only [Capture.complete, hsource, hresult]

/-- After the frame's own handling the commands behind are taken on DONE and flushed on any other outcome. -/
theorem resumeQueue_deliverSample (o : CommandOutcome) (i : Fin 32) (gap : Bool) (raws : List Int) (s : State) :
    resumeQueue o (deliverSample i gap raws s)
      = if o = .done then runQueue s.commandQueue (deliverSample i gap raws s)
        else flush s.commandQueue (deliverSample i gap raws s) := by
  rw [resumeQueue, deliverSample_commandQueue]

/-- Settles O26: the frame brings the count to N; the ending that its result and the Staging Area give is reported, and the
commands behind follow its handling. -/
theorem lastSampleCompletesTheCapture : Obligations.LastSampleCompletesTheCapture := by
  intro s ws f i d desc k source cmd rest hs hkey haccepts hdesc hlen hk hcontext hcollecting hcount hqueue hsource
    raws sum mean words reported ends hmany made
  have htaken : (raws.take (k.n - k.count)).length = k.n - k.count := by rw [List.length_take]; omega
  have hlast : (k.collect raws (0 < d)).count = (k.collect raws (0 < d)).n := by
    simp only [Capture.collect, htaken]; omega
  let k' := k.collect raws (0 < d)
  let met := (heardAt .field s).setContext i (acceptedRecord f.seq d (s.context i))
  have hcapture : met.capture = some k := by rw [State.setContext_capture, heardAt_capture, hk]
  have hrecord : sourceRecord k'.source k'.profile met = some source := by
    refine sourceRecord_eq_some (k := k) ?_
    rw [State.setContext_staging, State.setContext_profiles, heardAt_staging, heardAt_profiles]
    exact hsource
  have hwords (field : Int) (staged : Nat) : k'.data k'.mean field staged = words field staged := by
    have hfull : k'.count = k.n := hlast
    have hgaps : k'.gaps = k.gaps + (if 0 < d then 1 else 0) := by simp only [k', Capture.collect, decide_eq_true_eq]
    simp only [Capture.data, wordPair_ofInt, hfull, hgaps]
    rfl
  have hends (e : CaptureEnding) (he : k'.complete met = e) :
      ends (if e.outcome = .done then runQueue rest (reported e.outcome e.stage e.field e.staging)
        else flush rest (reported e.outcome e.stage e.field e.staging)) := by
    have hhead : ({ met with staging := e.staging, capture := none } : State).commandQueue = cmd :: rest := by
      change met.commandQueue = _
      rw [State.setContext_commandQueue, heardAt_commandQueue, hqueue]
    have hreport : reportCapture e.outcome e.stage k'.mean e.field k' { met with staging := e.staging }
        = queueReport (finalBody cmd e.outcome e.stage (words e.field e.staging.length))
            { met with
              capture := none, staging := e.staging, reservations := s.reservations - 1, commandQueue := rest,
              executing := false } := by
      rw [reportCapture, hwords, finishHead_of_cons hhead]
      rfl
    simp only [ends]
    rw [exec_sample_of_allowed hs hkey haccepts hdesc hlen,
      tapAround_of_last hcapture hcontext hcollecting hlast he, resumeQueue_deliverSample, hreport]
    rfl
  have hmade {field : Int} {record : Profile} (hresult : k'.result source = some (field, record)) : made field record := by
    have hcomplete := complete_of_result hrecord hresult
    have hplace := stagingRoom_iff k.profile s.staging
    by_cases hroom : (∃ e ∈ s.staging, e.target = k.profile) ∨ s.staging.length < 8
    · simp only [made]
      rw [if_pos hroom]
      exact hends _ (hcomplete.trans (if_pos (hplace.2 hroom)))
    · simp only [made]
      rw [if_neg hroom]
      exact hends _ (hcomplete.trans (if_neg (mt hplace.1 hroom)))
  refine ⟨fun hzero => hmade ?zero, fun hspan g hg => hmade ?gain, fun hspan hnone =>
    hends _ (complete_of_no_result hrecord ?noGain)⟩
  case zero =>
    have hmode : k'.mode = .zero := hzero
    simp only [Capture.result, hmode]
    rfl
  case gain =>
    have hmode : k'.mode = .span := hspan
    have hgain : spanGain source k'.reference k'.mean = some g := hg
    simp only [Capture.result, hmode, hgain, Option.map_some]
  case noGain =>
    have hmode : k'.mode = .span := hspan
    have hgain : spanGain source k'.reference k'.mean = none := hnone
    simp only [Capture.result, hmode, hgain, Option.map_none]

end Sys2Proof.Machine
end

section
/-! SUPPORT. The roundings of a capture (R152, R153), DESCRIBE frames (R38 to R46, R156), and the selection run (R59 to R66). -/

namespace Sys2Proof.Machine

set_option Elab.async false

open Sys2Proof.Safety

/-! ### Rounding (R152, R153) -/

/-- The mean is the floor of the sum over N and a half. -/
theorem Capture.mean_floor (k : Capture) (hn : 1 ≤ k.n) :
    2 * k.n * k.mean ≤ 2 * k.sum + k.n ∧ 2 * k.sum + k.n < 2 * k.n * (k.mean + 1) := by
  have hpos : (0 : Int) < 2 * k.n := by omega
  rw [mul_comm (2 * (k.n : Int)), mul_comm (2 * (k.n : Int))]
  exact ⟨Int.ediv_mul_le _ hpos.ne', Int.lt_ediv_add_one_mul_self _ hpos⟩

/-- R153: g is a nearest integer to a / b, and on a half the one further from zero. -/
def IsNearest (a b g : Int) : Prop :=
  2 * (a - g * b).natAbs ≤ b.natAbs ∧ (2 * (a - g * b).natAbs = b.natAbs → a.natAbs < (g * b).natAbs)

/-- Neighbouring multiples stand on one side of zero. -/
theorem mul_same_side (g b : Int) : (0 ≤ g * b ∧ 0 ≤ (g + 1) * b) ∨ (g * b ≤ 0 ∧ (g + 1) * b ≤ 0) := by
  obtain hg | hg : 0 ≤ g ∨ g + 1 ≤ 0 := by omega
  · obtain hb | hb := le_total 0 b
    · exact .inl ⟨mul_nonneg hg hb, mul_nonneg (by omega) hb⟩
    · exact .inr ⟨mul_nonpos_of_nonneg_of_nonpos hg hb, mul_nonpos_of_nonneg_of_nonpos (by omega) hb⟩
  · obtain hb | hb := le_total 0 b
    · exact .inr ⟨mul_nonpos_of_nonpos_of_nonneg (by omega) hb, mul_nonpos_of_nonpos_of_nonneg hg hb⟩
    · exact .inl ⟨mul_nonneg_of_nonpos_of_nonpos (by omega) hb, mul_nonneg_of_nonpos_of_nonpos hg hb⟩

/-- Two neighbours are not both nearest: a / b would be halfway, and one of them nearer to zero. -/
theorem not_isNearest_succ {a b g : Int} (h : IsNearest a b g) : ¬ IsNearest a b (g + 1) := by
  intro h'
  have hside := mul_same_side g b
  have hnext : (g + 1) * b = g * b + b := by ring
  obtain ⟨hnear, haway⟩ := h
  obtain ⟨hnear', haway'⟩ := h'
  rw [hnext] at hnear' haway' hside
  generalize g * b = m at *
  omega

/-- Integers further apart than 1 are not both nearest. -/
theorem sub_le_one_of_isNearest {a b g g' : Int} (hb : b ≠ 0) (h : IsNearest a b g) (h' : IsNearest a b g') :
    g' - g ≤ 1 := by
  obtain ⟨hnear, -⟩ := h
  obtain ⟨hnear', -⟩ := h'
  by_contra hfar
  have hspread : (g' * b - g * b).natAbs = (g' - g).natAbs * b.natAbs := by rw [← sub_mul, Int.natAbs_mul]
  have htwice : 2 * b.natAbs ≤ (g' - g).natAbs * b.natAbs := Nat.mul_le_mul_right _ (by omega)
  omega

theorem isNearest_unique {a b g g' : Int} (hb : b ≠ 0) (h : IsNearest a b g) (h' : IsNearest a b g') : g' = g := by
  have hup := sub_le_one_of_isNearest hb h h'
  have hdown := sub_le_one_of_isNearest hb h' h
  have hnext : g' ≠ g + 1 := fun he => not_isNearest_succ h (he ▸ h')
  have hprevious : g ≠ g' + 1 := fun he => not_isNearest_succ h' (he ▸ h)
  omega

/-- The quotient times b lies on the side of a, at the multiple of |b| nearest to |a|. -/
theorem roundedQuotient_mul (a b : Int) :
    roundedQuotient a b * b
      = if a < 0 then -(((2 * a.natAbs + b.natAbs) / (2 * b.natAbs) * b.natAbs : Nat) : Int)
        else (((2 * a.natAbs + b.natAbs) / (2 * b.natAbs) * b.natAbs : Nat) : Int) := by
  simp only [roundedQuotient]
  generalize (2 * a.natAbs + b.natAbs) / (2 * b.natAbs) = m
  rw [Nat.cast_mul]
  by_cases ha : a < 0 <;> by_cases hb : b < 0
  · have hsign : (b.natAbs : Int) = -b := by omega
    simp [ha, hb, hsign]
  · have hsign : (b.natAbs : Int) = b := by omega
    simp [ha, hb, hsign]
  · have hsign : (b.natAbs : Int) = -b := by omega
    simp [ha, hb, hsign]
  · have hsign : (b.natAbs : Int) = b := by omega
    simp [ha, hb, hsign]

/-- The model's quotient is the nearest integer. -/
theorem isNearest_roundedQuotient {a b : Int} (hb : b ≠ 0) : IsNearest a b (roundedQuotient a b) := by
  have hmul := roundedQuotient_mul a b
  have hdivides := Nat.div_add_mod (2 * a.natAbs + b.natAbs) (2 * b.natAbs)
  have hrest := Nat.mod_lt (2 * a.natAbs + b.natAbs) (show 0 < 2 * b.natAbs by omega)
  rw [show 2 * b.natAbs * ((2 * a.natAbs + b.natAbs) / (2 * b.natAbs))
    = 2 * ((2 * a.natAbs + b.natAbs) / (2 * b.natAbs) * b.natAbs) by ring] at hdivides
  rw [IsNearest, hmul]
  generalize (2 * a.natAbs + b.natAbs) / (2 * b.natAbs) * b.natAbs = m at *
  generalize (2 * a.natAbs + b.natAbs) % (2 * b.natAbs) = r at *
  split <;> omega

/-- Settles O27: the mean as a floor, and the gain as the one nearest integer. -/
theorem captureResultsAreRoundedToNearest : Obligations.CaptureResultsAreRoundedToNearest := by
  refine ⟨Capture.mean_floor, fun source reference mean => ?_⟩
  intro a b nearest
  refine ⟨fun hb => if_pos hb, fun hb =>
    ⟨roundedQuotient a b, isNearest_roundedQuotient hb,
      fun g' h' => isNearest_unique hb (isNearest_roundedQuotient hb) h', ?_⟩⟩
  refine (if_neg hb).trans ?_
  simp only [Bool.and_eq_true, decide_eq_true_eq]
  rfl

/-! ### The selection run (R59 to R66) -/

/-- The key index as a number (R59). -/
theorem keyIndex_eq (d : Descriptor) (variant : BitVec 1) :
    keyIndex d variant = BitVec.ofNat 8 (16 * d.cls.toNat + 2 * d.range.toNat + variant.toNat) := by
  apply BitVec.eq_of_toNat_eq
  have hcls := d.cls.isLt
  have hrange := d.range.isLt
  have hvariant := variant.isLt
  rw [keyIndex, toNat_append_eq, toNat_append_eq, BitVec.toNat_ofNat]
  omega

theorem keyIndex_setWidth (d : Descriptor) (variant : BitVec 1) :
    (keyIndex d variant).setWidth 16 = natWord (16 * d.cls.toNat + 2 * d.range.toNat + variant.toNat) := by
  apply BitVec.eq_of_toNat_eq
  have hcls := d.cls.isLt
  have hrange := d.range.isLt
  have hvariant := variant.isLt
  rw [keyIndex_eq, BitVec.toNat_setWidth, BitVec.toNat_ofNat, natWord, BitVec.toNat_ofNat]
  omega

/-- What a run leaves of a context for the profile it chooses (R64, R65). -/
theorem Context.chooseProfile_eq (chosen : Option (BitVec 6)) (c : Context) :
    c.chooseProfile chosen
      = { c with
          activeProfile := chosen
          newProfile := if chosen = none ∨ chosen = c.activeProfile then c.newProfile else true
          state := if c.state = .stale then .stale else if chosen = none then .unmapped else .active } := by
  unfold Context.chooseProfile settledState
  cases chosen with
  | none => simp only [Option.isSome_none, Bool.false_and, Bool.or_false, true_or, if_true, Bool.false_eq_true, if_false]
  | some p =>
    by_cases hsame : some p = c.activeProfile
    · simp [← hsame]
    · simp [hsame]

theorem Context.afterMiss_eq (profiles : Table 6 Profile) (c : Context) :
    c.afterMiss profiles
      = if c.missPolicy = .retain ∧ c.activeProfile.any (validProfile profiles) then c.activeProfile else none := by
  unfold Context.afterMiss
  cases hpolicy : c.missPolicy with
  | drop => simp
  | retain =>
    cases c.activeProfile with
    | none => rfl
    | some p => cases hp : validProfile profiles p <;> simp [Option.filter, hp]

/-- A miss: the entry names no valid profile (R62). -/
theorem mapHit_eq_none {map : Table 8 (BitVec 6)} {profiles : Table 6 Profile} {k : BitVec 8}
    (h : ∀ p, Table.get k map = some p → validProfile profiles p = false) : mapHit map profiles k = none := by
  rw [mapHit, Option.filter_eq_none_iff]
  exact fun p hp => Bool.eq_false_iff.1 (h p hp)

theorem mapHit_eq_some {map : Table 8 (BitVec 6)} {profiles : Table 6 Profile} {k : BitVec 8} {p : BitVec 6}
    (h : Table.get k map = some p) (hp : validProfile profiles p = true) : mapHit map profiles k = some p := by
  rw [mapHit, h, Option.filter_some_pos hp]

section
variable {map : Table 8 (BitVec 6)} {profiles : Table 6 Profile} {c : Context} {d : Descriptor}
  (hd : c.descriptor = some d)
include hd

theorem selectionRun_of_fixed {p : BitVec 6} (hfixed : c.mode = .fixed p) :
    c.selectionRun map profiles = c.chooseProfile (if validProfile profiles p then some p else none) := by
  simp only [Context.selectionRun, hd, hfixed, Context.fixedRun]

variable (hauto : c.mode = .auto)
include hauto

theorem selectionRun_of_hit {p : BitVec 6} (hhit : mapHit map profiles (keyIndex d c.variant) = some p) :
    c.selectionRun map profiles = c.chooseProfile (some p) := by
  simp only [Context.selectionRun, hd, hauto, Context.autoRun, hhit]

theorem selectionRun_of_miss (hmiss : mapHit map profiles (keyIndex d c.variant) = none) :
    c.selectionRun map profiles
      = (c.latchKind .selectMiss
          [(keyIndex d c.variant).setWidth 16, profileWord (Table.get (keyIndex d c.variant) map),
            profileWord (c.afterMiss profiles)]).chooseProfile (c.afterMiss profiles) := by
  simp only [Context.selectionRun, hd, hauto, Context.autoRun, hmiss]

end

/-- Settles O30: without a descriptor nothing runs; a FIXED run; an AUTO run that hits, and one that misses. -/
theorem selectionRunChoosesTheProfile : Obligations.SelectionRunChoosesTheProfile := by
  intro map profiles c valid settled
  refine ⟨fun hnone => ?none, fun d hd => ⟨fun p hfixed => ?fixed, fun hauto => ?auto⟩⟩
  case none => simp only [Context.selectionRun, hnone]
  case fixed => exact (selectionRun_of_fixed hd hfixed).trans (Context.chooseProfile_eq _ c)
  case auto =>
    intro index entry
    have hentry : Table.get (keyIndex d c.variant) map = entry := by rw [keyIndex_eq]
    refine ⟨fun p hp hvalid => ?hit, fun hmiss => ?miss⟩
    case hit =>
      exact (selectionRun_of_hit hd hauto (mapHit_eq_some (hentry.trans hp) hvalid)).trans (Context.chooseProfile_eq _ c)
    case miss =>
      intro left
      have hnone : mapHit map profiles (keyIndex d c.variant) = none :=
        mapHit_eq_none fun p hp => hmiss p (hentry.symm.trans hp)
      have hleft : c.afterMiss profiles = left := c.afterMiss_eq profiles
      rw [selectionRun_of_miss hd hauto hnone, hleft, hentry, keyIndex_setWidth]
      exact Context.chooseProfile_eq left _

/-! ### The checks of a DESCRIBE payload (R39, R40) -/

theorem encodingField_toNat (w : Word) : (w.extractLsb' 4 4).toNat = w.toNat / 16 % 16 := by
  rw [BitVec.extractLsb'_toNat, Nat.shiftRight_eq_div_pow]

theorem ofCode_eq_none : ∀ c : BitVec 4, 4 < c.toNat → Encoding.ofCode c = none := by decide

theorem ofCode_isSome : ∀ c : BitVec 4, c.toNat ≤ 4 → (Encoding.ofCode c).isSome = true := by decide

theorem ofCode_code (e : Encoding) : Encoding.ofCode e.code = some e := by cases e <;> rfl

theorem checkDescribe_of_length {payload : List Word} (h : payload.length ≠ 4) :
    checkDescribe payload = .invalid 1 (natWord payload.length) := by
  unfold checkDescribe
  split
  case h_1 => exact absurd rfl h
  case h_2 => rfl

section
variable {w hi lo zero : Word}

theorem checkDescribe_of_encoding (h : 4 < w.toNat / 16 % 16) :
    checkDescribe [w, hi, lo, zero] = .invalid 2 (natWord (w.toNat / 16 % 16)) := by
  have hnone : Encoding.ofCode (w.extractLsb' 4 4) = none := ofCode_eq_none _ (by rwa [encodingField_toNat])
  simp only [checkDescribe, hnone]
  rw [← encodingField_toNat, natWord, BitVec.ofNat_toNat]

theorem checkDescribe_of_reserved (hencoding : w.toNat / 16 % 16 ≤ 4) (h : 32768 ≤ w.toNat) :
    checkDescribe [w, hi, lo, zero] = .invalid 3 w := by
  obtain ⟨e, he⟩ := Option.isSome_iff_exists.1 (ofCode_isSome (w.extractLsb' 4 4) (by rwa [encodingField_toNat]))
  have hmsb : w.msb = true := by simpa [BitVec.msb_eq_decide] using h
  simp only [checkDescribe, he, hmsb, if_true]

theorem checkDescribe_of_zero (hencoding : w.toNat / 16 % 16 ≤ 4) (hlow : w.toNat < 32768) (h : zero ≠ 0) :
    checkDescribe [w, hi, lo, zero] = .invalid 4 zero := by
  obtain ⟨e, he⟩ := Option.isSome_iff_exists.1 (ofCode_isSome (w.extractLsb' 4 4) (by rwa [encodingField_toNat]))
  have hmsb : w.msb = false := by simpa [BitVec.msb_eq_decide] using hlow
  simp only [checkDescribe, he, hmsb, Bool.false_eq_true, if_false, if_pos h]

/-- R39, R195: the descriptor that four words spell. -/
def spelledDescriptor (w hi lo : Word) (e : Encoding) : Descriptor :=
  { cls := BitVec.ofNat 4 (w.toNat / 2048), range := BitVec.ofNat 3 (w.toNat / 256), encoding := e,
    unit := BitVec.ofNat 4 w.toNat, serial := BitVec.ofNat 32 (hi.toNat * 65536 + lo.toNat) }

/-- A field of the descriptor word as a quotient. -/
theorem extractLsb'_eq_ofNat (w : Word) (start len : Nat) :
    w.extractLsb' start len = BitVec.ofNat len (w.toNat / 2 ^ start) := by
  apply BitVec.eq_of_toNat_eq
  rw [BitVec.extractLsb'_toNat, BitVec.toNat_ofNat, Nat.shiftRight_eq_div_pow]

theorem checkDescribe_valid {e : Encoding} (hlow : w.toNat < 32768) (he : e.code.toNat = w.toNat / 16 % 16) :
    checkDescribe [w, hi, lo, 0] = .valid (spelledDescriptor w hi lo e) := by
  have hcode : Encoding.ofCode (w.extractLsb' 4 4) = some e := by
    rw [← ofCode_code e]
    congr 1
    rw [BitVec.toNat_eq, encodingField_toNat, he]
  have hmsb : w.msb = false := by simpa [BitVec.msb_eq_decide] using hlow
  simp only [checkDescribe, hcode, hmsb, Bool.false_eq_true, if_false, ne_eq, not_true]
  simp only [spelledDescriptor, pairValue_eq, extractLsb'_eq_ofNat, Nat.reducePow, Nat.div_one]

end

/-- A DESCRIBE frame of a bound key that changes no descriptor leaves the record of its class (R38). -/
theorem describeContext_of_no_change {s : State} {i : Fin 32} {payload : List Word}
    (h : (s.context i).describesChange payload = false) :
    describeContext i payload s
      = s.setContext i ((s.context i).describe s.selectionMap s.profiles payload) := by
  simp only [describeContext, h, Bool.false_eq_true, if_false]

/-- Settles O28: the checks in their order, each by what it finds. -/
theorem invalidDescribeIsOnlyLatched : Obligations.InvalidDescribeIsOnlyLatched := by
  intro s ws f i hs hkey c invalid
  have judged {code found : Word} (hcheck : checkDescribe f.payload = .invalid code found) : invalid [code, found] := by
    have hkeeps : ((heardAt .field s).context i).describesChange f.payload = false := by
      simp only [Context.describesChange, hcheck]
    simp only [invalid]
    rw [exec_describe_of_resolved hs hkey, describeContext_of_no_change hkeeps, heardAt_context, Context.describe, hcheck]
    rfl
  refine ⟨fun hlen => judged (checkDescribe_of_length hlen), fun w hi lo zero hpayload => ?_⟩
  rw [hpayload] at judged
  exact ⟨fun h => judged (checkDescribe_of_encoding h), fun hle h => judged (checkDescribe_of_reserved hle h),
    fun hle hlow h => judged (checkDescribe_of_zero hle hlow h)⟩

/-! ### Valid DESCRIBE frames (R42 to R46, R156) -/

/-- The descriptor word as a number (R195). -/
theorem Descriptor.word_eq (d : Descriptor) :
    d.word
      = natWord (2048 * d.cls.toNat + 256 * d.range.toNat + 16 * d.encoding.code.toNat + d.unit.toNat) := by
  refine (natWord_eq_of_toNat ?_).symm
  rw [Descriptor.word, toNat_append_eq, toNat_append_eq, toNat_append_eq, toNat_append_eq, BitVec.toNat_ofNat]
  omega

section
variable {w hi lo : Word} {e : Encoding}

theorem spelledDescriptor_word (hlow : w.toNat < 32768) (he : e.code.toNat = w.toNat / 16 % 16) :
    (spelledDescriptor w hi lo e).word = w := by
  rw [Descriptor.word_eq]
  refine natWord_eq_of_toNat ?_
  simp only [spelledDescriptor, he, BitVec.toNat_ofNat]
  omega

theorem spelledDescriptor_serial : wordPair (spelledDescriptor w hi lo e).serial = [hi, lo] := by
  have hhi := hi.isLt
  have hlo := lo.isLt
  simp only [spelledDescriptor, wordPair_eq, BitVec.toNat_ofNat, List.cons.injEq, and_true]
  refine ⟨natWord_eq_of_toNat (by omega), BitVec.eq_of_toNat_eq ?_⟩
  rw [natWord, BitVec.toNat_ofNat]
  omega

end

/-- R46: the changed-field set as a sum. -/
theorem changedFields_eq (old new : Descriptor) :
    changedFields old new
      = natWord
          ((if old.cls = new.cls then 0 else 1) + (if old.range = new.range then 0 else 2)
            + (if old.encoding = new.encoding then 0 else 4) + (if old.unit = new.unit then 0 else 8)
            + (if old.serial = new.serial then 0 else 16)) := by
  have hbit {α : Type} [DecidableEq α] (x y : α) (k : Nat) :
      natWord k * flagWord (x != y) = natWord (if x = y then 0 else k) := by
    by_cases h : x = y
    · simp [h, flagWord, natWord]
    · simp [h, flagWord, natWord]
  rw [← natWord_add, ← natWord_add, ← natWord_add, ← natWord_add, ← hbit, ← hbit, ← hbit, ← hbit, ← hbit]
  simp [changedFields, natWord]

section
variable {map : Table 8 (BitVec 6)} {profiles : Table 6 Profile} {payload : List Word} {c : Context} {d : Descriptor}
  (hcheck : checkDescribe payload = .valid d)
include hcheck

theorem describe_of_first (hnone : c.descriptor = none) :
    c.describe map profiles payload = c.countDescribe.describeFirst map profiles d := by
  simp only [Context.describe, hcheck, hnone]

theorem describe_of_identical (hsame : c.descriptor = some d) :
    c.describe map profiles payload = c.countDescribe.describeIdentical := by
  simp only [Context.describe, hcheck, hsame, if_true]

theorem describe_of_changed {old : Descriptor} (hold : c.descriptor = some old) (hne : old ≠ d) :
    c.describe map profiles payload = c.countDescribe.describeChanged map profiles old d := by
  simp only [Context.describe, hcheck, hold, if_neg hne]

theorem describesChange_iff : c.describesChange payload = true ↔ ∃ old, c.descriptor = some old ∧ old ≠ d := by
  simp only [Context.describesChange, hcheck]
  cases c.descriptor <;> simp

end

/-- A changed descriptor ends the capture that runs on its context, and no other (R156). -/
theorem endCaptureOn_of_noCaptureOn {s : State} {i : Fin 32} (h : NoCaptureOn s i) (o : CommandOutcome) :
    endCaptureOn i o s = s := by
  unfold endCaptureOn
  split
  case h_1 k hk => exact if_neg (h k hk)
  case h_2 => rfl

theorem endCaptureOn_of_capture {s : State} {i : Fin 32} {k : Capture} (hk : s.capture = some k) (hi : k.context = i)
    (o : CommandOutcome) : endCaptureOn i o s = endCapture o k s := by
  simp only [endCaptureOn, hk, if_pos hi]

/-- Settles O29: the first descriptor, the same again, or another, which ends a capture on the context. -/
theorem validDescribeIsFirstIdenticalOrChanged : Obligations.ValidDescribeIsFirstIdenticalOrChanged := by
  intro s ws f i w hi lo e hs hkey hpayload hlow he c0 c new out
  have hcheck : checkDescribe f.payload = .valid new := by rw [hpayload]; exact checkDescribe_valid hlow he
  have hword : new.word = w := spelledDescriptor_word hlow he
  have hserial : wordPair new.serial = [hi, lo] := spelledDescriptor_serial
  have hkept (h : ¬ ∃ old, c0.descriptor = some old ∧ old ≠ new) :
      exec (.describe .field ws) s
        = .next
          (arbitrate ((heardAt .field s).setContext i (c0.describe s.selectionMap s.profiles f.payload))) := by
    have hnot : ((heardAt .field s).context i).describesChange f.payload = false := by
      rw [heardAt_context, ← Bool.not_eq_true, describesChange_iff hcheck]; exact h
    rw [exec_describe_of_resolved hs hkey, describeContext_of_no_change hnot, heardAt_context, heardAt_selectionMap,
      heardAt_profiles]
  refine ⟨fun hnone => ?first, fun hsame => ?identical, fun old oldWord hold hne holdWord => ?changed⟩
  case first =>
    have hnone : c0.descriptor = none := hnone
    rw [hkept (by simp [hnone]), describe_of_first hcheck hnone]
    simp only [Context.describeFirst, hword, hserial]
    rfl
  case identical =>
    have hsame : c0.descriptor = some new := hsame
    rw [hkept (by simp [hsame]), describe_of_identical hcheck hsame]
    rfl
  case changed =>
    intro changed u
    have hold : c0.descriptor = some old := hold
    have hchange : ((heardAt .field s).context i).describesChange f.payload = true := by
      rw [heardAt_context, describesChange_iff hcheck]; exact ⟨old, hold, hne⟩
    have hrecord : (heardAt .field s).setContext i (c0.describe s.selectionMap s.profiles f.payload) = u := by
      rw [describe_of_changed hcheck hold hne, Context.describeChanged, changedFields_eq, hword, Descriptor.word_eq old,
        ← holdWord]
      rfl
    have hexec : exec (.describe .field ws) s = .next (arbitrate (endCaptureOn i .descChanged u)) := by
      rw [exec_describe_of_resolved hs hkey, describeContext, if_pos hchange, heardAt_context, heardAt_selectionMap,
        heardAt_profiles, hrecord]
    rw [hexec]
    refine ⟨fun hfree => ?_, fun k hk hcontext => ?_⟩
    · have hfree : NoCaptureOn u i := hfree
      rw [endCaptureOn_of_noCaptureOn hfree]
    · have hk : u.capture = some k := hk
      rw [endCaptureOn_of_capture hk hcontext, endCapture_eq (by decide)]
      rfl

end Sys2Proof.Machine
end

section
/-! SUPPORT. The transmitters and the emission of events (R164, R174, R175, R184 to R187), ABORT and RESET-PART (R91, R139,
R141), the run of the Command Queue (R130 to R134) and admission (R123 to R128). -/

namespace Sys2Proof.Machine

set_option Elab.async false

open Sys2Proof.Safety

/-! ### The field transmitter (R184) -/

theorem fieldChoose_of_blocked {s : State} (h : s.fieldTx ≠ none ∨ s.fieldLink.up = false ∨ s.resetHeld = true) :
    fieldChoose s = s := by
  refine if_pos ?_
  rw [Bool.or_eq_true, State.linkUp, Option.isSome_iff_ne_none, Bool.not_eq_true', Bool.and_eq_false_iff]
  obtain hbusy | hdown | hheld := h
  · exact .inl hbusy
  · exact .inr (.inr hdown)
  · exact .inr (.inl (by rw [hheld]; rfl))

section
variable {s : State} (hreleased : s.resetHeld = false) (hidle : s.fieldTx = none) (hup : s.fieldLink.up = true)
include hreleased hidle hup

theorem not_fieldBlocked : ¬ (s.fieldTx.isSome || !s.linkUp .field) = true := by
  simp [hidle, State.linkUp_of_released hreleased, hup]

theorem fieldChoose_of_slot {n : Word} (h : s.cycleSlot = some n) :
    fieldChoose s = { s with cycleSlot := none, fieldTx := some (.cycleCopy n) } := by
  rw [fieldChoose, if_neg (not_fieldBlocked hreleased hidle hup), h]

theorem fieldChoose_of_pass {ws : List Word} {rest : List (List Word)} (hslot : s.cycleSlot = none)
    (h : s.downQueue = ws :: rest) : fieldChoose s = { s with downQueue := rest, fieldTx := some (.pass ws) } := by
  simp only [fieldChoose, if_neg (not_fieldBlocked hreleased hidle hup), hslot, h]

theorem fieldChoose_of_nothing (hslot : s.cycleSlot = none) (h : s.downQueue = []) : fieldChoose s = s := by
  simp only [fieldChoose, if_neg (not_fieldBlocked hreleased hidle hup), hslot, h]

end

/-! ### The control transmitter (R185, R186) -/

theorem arbitrate_of_blocked {s : State} (h : s.controlTx ≠ none ∨ s.controlLink.up = false ∨ s.resetHeld = true) :
    arbitrate s = s := by
  refine if_pos ?_
  rw [Bool.or_eq_true, State.linkUp, Option.isSome_iff_ne_none, Bool.not_eq_true', Bool.and_eq_false_iff]
  obtain hbusy | hdown | hheld := h
  · exact .inl hbusy
  · exact .inr (.inr hdown)
  · exact .inr (.inl (by rw [hheld]; rfl))

/-- The oldest UNSENT report is the one behind reports that are all SENT (R164). -/
theorem find?_unsent_append {before after : List Report} {r : Report} (hbefore : ∀ x ∈ before, x.sent = true)
    (hr : r.sent = false) : (before ++ r :: after).find? (fun x => !x.sent) = some r := by
  rw [List.find?_append, List.find?_eq_none.2 fun x hx => by simp [hbefore x hx], Option.none_or,
    List.find?_cons_of_pos (by simp [hr])]

theorem sendOldest_append {before after : List Report} {r : Report} (hbefore : ∀ x ∈ before, x.sent = true)
    (hr : r.sent = false) : sendOldest (before ++ r :: after) = before ++ { r with sent := true } :: after := by
  induction before with
  | nil => simp [sendOldest, hr]
  | cons x before ih =>
    obtain ⟨hx, hrest⟩ := List.forall_mem_cons.1 hbefore
    simp [sendOldest, hx, ih hrest]

/-- No report is to be sent on a STALLED path, nor where all are SENT. -/
theorem noReport_of_quiet {s : State} (hquiet : s.path = .stalled ∨ ∀ r ∈ s.reports, r.sent = true) :
    (if s.path = .running then s.reports.find? (fun r => !r.sent) else none) = none := by
  obtain hstalled | hsent := hquiet
  · exact if_neg (by rw [hstalled]; decide)
  · rw [List.find?_eq_none.2 fun r hr => by simp [hsent r hr], ite_self]

section
variable {s : State} (hreleased : s.resetHeld = false) (hidle : s.controlTx = none) (hup : s.controlLink.up = true)
include hreleased hidle hup

theorem not_controlBlocked : ¬ (s.controlTx.isSome || !s.linkUp .control) = true := by
  simp [hidle, State.linkUp_of_released hreleased, hup]

theorem arbitrate_of_report {r : Report} (hpath : s.path = .running)
    (hr : s.reports.find? (fun r => !r.sent) = some r) :
    arbitrate s
      = { s with
          reports := sendOldest s.reports
          retryTimer := some (s.retryTimer.getD s.retryInterval)
          controlTx := some (.report r.toWords) } := by
  simp only [arbitrate, if_neg (not_controlBlocked hreleased hidle hup), if_pos hpath, hr]

variable (hquiet : s.path = .stalled ∨ ∀ r ∈ s.reports, r.sent = true)
include hquiet

theorem arbitrate_of_pass {ws : List Word} {rest : List (List Word)} (hpass : s.upQueue = ws :: rest)
    (hturn : s.measureQueue = [] ∨ s.measuresSincePass = 4) :
    arbitrate s = { s with upQueue := rest, measuresSincePass := 0, controlTx := some (.pass ws) } := by
  simp only [arbitrate, if_neg (not_controlBlocked hreleased hidle hup), noReport_of_quiet hquiet, hpass]
  cases hm : s.measureQueue with
  | nil => rfl
  | cons m ms =>
    have hfour : s.measuresSincePass = 4 := hturn.resolve_left (by rw [hm]; exact List.cons_ne_nil m ms)
    exact if_pos hfour

theorem arbitrate_of_measure {m : MeasureFrame} {ms : List MeasureFrame} (hmeasure : s.measureQueue = m :: ms)
    (hturn : s.upQueue = [] ∨ s.measuresSincePass ≠ 4) :
    arbitrate s
      = { s with
          measureQueue := ms
          measuresSincePass := min 4 (s.measuresSincePass + 1)
          controlTx := some (.measure m.toWords) } := by
  simp only [arbitrate, if_neg (not_controlBlocked hreleased hidle hup), noReport_of_quiet hquiet, hmeasure]
  cases hu : s.upQueue with
  | nil => rfl
  | cons ws rest =>
    have hfew : s.measuresSincePass ≠ 4 := hturn.resolve_left (by rw [hu]; exact List.cons_ne_nil ws rest)
    exact if_neg hfew

theorem arbitrate_of_nothing (hpass : s.upQueue = []) (hmeasure : s.measureQueue = []) : arbitrate s = s := by
  simp only [arbitrate, if_neg (not_controlBlocked hreleased hidle hup), noReport_of_quiet hquiet, hpass,
    hmeasure]

end

theorem exec_transmissionEnd {s : State} {p : Port} (hreleased : s.resetHeld = false) :
    exec (.transmissionEnd p) s = .next (endTransmission p s) :=
  congrArg Host.Outcome.next (State.live_of_released hreleased _)

/-- Settles O52: the blocked transmitters, the order of each, and the end of a frame. -/
theorem transmittersChooseTheNextFrame : Obligations.TransmittersChooseTheNextFrame := by
  refine ⟨fun s => ⟨fieldChoose_of_blocked, arbitrate_of_blocked⟩, fun s hreleased hidle hup => ?field,
    fun s hreleased hidle hup => ?control, fun s hreleased => ?ends⟩
  case field =>
    exact ⟨fun n => fieldChoose_of_slot hreleased hidle hup, fun ws rest => fieldChoose_of_pass hreleased hidle hup,
      fieldChoose_of_nothing hreleased hidle hup⟩
  case control =>
    refine ⟨fun before after r hpath hreports hr hbefore => ?report, fun hquiet =>
      ⟨fun ws rest => arbitrate_of_pass hreleased hidle hup hquiet,
        fun m ms => arbitrate_of_measure hreleased hidle hup hquiet,
        arbitrate_of_nothing hreleased hidle hup hquiet⟩⟩
    have hfind : s.reports.find? (fun r => !r.sent) = some r := by rw [hreports, find?_unsent_append hbefore hr]
    rw [arbitrate_of_report hreleased hidle hup hpath hfind, hreports, sendOldest_append hbefore hr]
    cases s.retryTimer <;> rfl
  case ends =>
    rw [exec_transmissionEnd hreleased, exec_transmissionEnd hreleased]
    exact ⟨fun hbusy => congrArg Host.Outcome.next (if_pos (Option.isSome_iff_ne_none.2 hbusy)),
      fun hbusy => congrArg Host.Outcome.next (if_pos (Option.isSome_iff_ne_none.2 hbusy))⟩

/-! ### Emission (R174, R175) -/

/-- The next owner by its number (R175). -/
theorem Owner.next_context : ∀ i : Fin 32, (Owner.context i).next = if i.val = 31 then .part else .context (i + 1) := by
  decide

/-- The first owner from one on that passes a test. -/
theorem find?_ownersFrom {test : Owner → Bool} {n total : Nat} {o : Owner} (hn : n < total)
    (hbefore : ∀ m, m < n → test (Owner.next^[m] o) = false) (hat : test (Owner.next^[n] o) = true) :
    (ownersFrom total o).find? test = some (Owner.next^[n] o) := by
  obtain ⟨total, rfl⟩ := Nat.exists_eq_add_one_of_ne_zero (Nat.ne_of_gt (Nat.zero_lt_of_lt hn))
  induction n generalizing total o with
  | zero => exact List.find?_cons_of_pos hat
  | succ n ih =>
    have hfirst : test o = false := hbefore 0 (Nat.succ_pos n)
    obtain ⟨total, rfl⟩ := Nat.exists_eq_add_one_of_ne_zero (show total ≠ 0 by omega)
    rw [ownersFrom, List.find?_cons_of_neg (by simp [hfirst]), Function.iterate_succ_apply]
    exact ih (o := o.next) (fun m hm => hbefore (m + 1) (by omega)) hat total (by omega)

theorem exec_emission {s : State} {o : Owner} (hreleased : s.resetHeld = false) (hup : s.controlLink.up = true)
    (hroom : s.reportLoad ≤ 11) (ho : nextOwner s = some o) : exec .emission s = .next (arbitrate (emitFrom o s)) := by
  refine congrArg Host.Outcome.next ((State.live_of_released hreleased _).trans ?_)
  have hopen : ¬ (!s.linkUp .control || decide (11 < s.reportLoad)) = true := by
    simp [State.linkUp_of_released hreleased, hup, hroom]
  simp only [emit, if_neg hopen, ho]

/-- Settles O51: the scan finds the first owner with an entry, and its first entry becomes the report. -/
theorem emissionReportsTheNextOwner : Obligations.EmissionReportsTheNextOwner := by
  intro s n kind e rest hreleased hup hroom after owner latch hn hbefore hat taken
  have hafter : after = Owner.next := by
    funext o
    cases o with
    | part => rfl
    | context i => exact (Owner.next_context i).symm
  have hlatch : latch = s.latchOf := by funext o; cases o <;> rfl
  have howner (m : Nat) : owner m = Owner.next^[m] s.scan := by simp only [owner, hafter]
  rw [hlatch, howner] at hat
  have hnext : nextOwner s = some (owner n) := by
    rw [howner]
    refine find?_ownersFrom hn (fun m hm => ?_) (by simp [hat])
    have hempty : s.latchOf (Owner.next^[m] s.scan) = [] := by rw [← howner, ← hlatch]; exact hbefore m hm
    simp [hempty]
  rw [exec_emission hreleased hup hroom hnext, hafter]
  rw [← howner] at hat
  simp only [emitFrom, hat, taken]
  cases owner n <;> rfl

/-! ### ABORT (R91, R139) -/

section
variable {s : State} {tag seq : Byte} {channel : BitVec 3} {target : Word}

theorem exec_abort (hs : HearsCommand s 33 tag) :
    exec (.abort .control (commandWords seq channel 33 tag target [])) s
      = .next (arbitrate (takeAbort (takenAtOnce .abort tag s))) := by
  rw [← takenAtOnce_eq]
  refine (exec_of_hearsCommand hs seq channel target (by simp) rfl).trans ?_
  exact congrArg (fun t => Host.Outcome.next (arbitrate t)) (admission_of_immediate (i := .abort) hs rfl s.path)

end

/-- Settles O47: an empty queue, a pending commit, or a running capture. -/
theorem abortEndsTheExecutingCommand : Obligations.AbortEndsTheExecutingCommand := by
  intro s tag seq channel target hs a aborted
  simp only [aborted]
  rw [exec_abort hs]
  have hqueue : a.commandQueue = s.commandQueue := takenAtOnce_commandQueue ..
  have hpending : a.commitPending = s.commitPending := takenAtOnce_commitPending ..
  have hstaging : a.staging = s.staging := takenAtOnce_staging ..
  have hgeneration : a.generation = s.generation := takenAtOnce_generation ..
  have hcapture : a.capture = s.capture := takenAtOnce_capture ..
  refine ⟨fun hempty => ?idle, fun hwaiting hcommit => ?commit, fun k hwaiting hnone hk => ?capture⟩
  case idle => rw [takeAbort, if_pos (hqueue.trans hempty)]
  case commit =>
    rw [takeAbort, if_neg (by rwa [hqueue]), if_pos (hpending.trans hcommit), abortCommit,
      resumeQueue_finishHead (by decide), hstaging, hgeneration]
  case capture =>
    have hk : a.capture = some k := hcapture.trans hk
    have hnot : ¬ a.commitPending = true := by rw [hpending, hnone]; decide
    have hended : takeAbort a = endCapture .aborted k a := by
      simp only [takeAbort, if_neg (show ¬ a.commandQueue = [] by rwa [hqueue]), if_neg hnot, hk]
    rw [hended, endCapture_eq (by decide), hstaging]

/-! ### RESET-PART (R23, R141) -/

/-- Settles O49: both scopes are taken on arrival, each from the fields that it leaves. -/
theorem resetPartRestoresItsScope : Obligations.ResetPartRestoresItsScope := by
  have taken {c : Instr} {s : State} {tag seq : Byte} {channel : BitVec 3} {target scope : Word} (hs : HearsCommand s 35 tag)
      (hc : c.frame? = some (.control, commandWords seq channel 35 tag target [scope]))
      (hscope : scope = 0 ∨ scope = 1) :
      exec c s
        = .next
          (arbitrate
            (if scope = 0 then resetFull tag (countImmediate (heardCommand s))
            else resetContexts tag (countImmediate (heardCommand s)))) := by
    have hfits : commandFits (.immediate .resetPart) [ImmediateCode.resetPart.toByte ++ tag, target, scope] = true := by
      obtain rfl | rfl := hscope <;> rfl
    refine (exec_of_hearsCommand hs seq channel target (by simp) hc).trans ?_
    exact congrArg (fun t => Host.Outcome.next (arbitrate t))
      (admission_of_immediate (i := .resetPart) hs hfits s.path)
  refine ⟨fun s tag seq channel target hs => ?full, fun s tag seq channel target hs => ?contexts⟩
  case full =>
    have hreleased : s.resetHeld = false := hs.1
    rw [taken hs rfl (.inl rfl), if_pos rfl]
    simp only [resetFull, freeContexts, discardWork, countImmediate, countPart, heardCommand_pending, heardCommand_draws,
      heardCommand_resetHeld, hreleased, heardCommand_fieldLink, heardCommand_controlLink, heardCommand_fieldTx,
      heardCommand_controlTx, heardCommand_marks]
    rfl
  case contexts =>
    rw [taken hs rfl (.inr rfl), if_neg (by decide), resetContexts, takenAtOnce_eq]
    simp only [latchPart, freeContexts, discardWork, takenAtOnce_partLatch]
    rfl

/-! ### The run of the Command Queue (R130 to R134) -/

section
variable {s u : State} {c : Command} {rest : List Command} {o : CommandOutcome} {data : List Word}

theorem runQueue_of_stays (h : takeHead c s = .stays u) :
    runQueue (c :: rest) s = { u with commandQueue := c :: rest, executing := true } := by
  simp only [runQueue, h]

theorem runQueue_of_done (h : takeHead c s = .ends .done data u) :
    runQueue (c :: rest) s = runQueue rest (queueFinal c .done 0 data u) := by
  simp only [runQueue, h, if_true]

/-- A command that fails at the head is an executing command that ends, with those behind it (R133, R134). -/
theorem runQueue_of_fails (h : takeHead c s = .ends o data u) (ho : o ≠ .done) :
    runQueue (c :: rest) s = endsFlushing o 0 data { u with commandQueue := c :: rest } := by
  have hflushed : runQueue (c :: rest) s = flush rest (queueFinal c o 0 data u) := by
    simp only [runQueue, h, if_neg ho]
  rw [hflushed, ← resumeQueue_finishHead ho, finishHead_of_cons rfl, resumeQueue, if_neg ho]
  simp only [flush_eq]
  rfl

end

/-- The context field of a final report by the target's number (R131). -/
theorem Command.contextField_eq (c : Command) :
    c.contextField
      = if actsOnContext c.code = true ∧ c.target.toNat ≤ 31 then BitVec.ofNat 8 c.target.toNat else 255 := by
  by_cases h : c.target.toNat < 32
  · have hle : c.target.toNat ≤ 31 := by omega
    simp only [Command.contextField, targetContext, dif_pos h, hle, and_true, contextByte]
  · have hgt : ¬ c.target.toNat ≤ 31 := by omega
    simp only [Command.contextField, targetContext, dif_neg h, hgt, and_false, if_false]

/-- Settles O31: the queue goes on by what the head does, and a final report carries the fields of its command. -/
theorem queueRunsUntilItStaysOrFails : Obligations.QueueRunsUntilItStaysOrFails := by
  refine ⟨fun s c rest => ⟨rfl, fun u => runQueue_of_stays, fun data u => runQueue_of_done, fun o data u =>
    runQueue_of_fails⟩, fun c o stage data => ?_⟩
  intro acts
  have hacts : actsOnContext c.code = acts := by
    simp only [acts]
    cases c.code <;> rfl
  rw [finalBody, Command.contextField_eq, hacts]

/-! ### Admission (R123 to R128) -/

theorem codeOf_toNat (w0 : Word) : (codeOf w0).toNat = w0.toNat / 256 := by
  rw [codeOf_eq_ofNat, BitVec.toNat_ofNat]; omega

/-- A queued command whose payload has its length (R122). -/
theorem payloadFits_of_queuedLength {q : QueuedCode} {payload : List Word}
    (h : queuedLength q payload = some payload.length) : payloadFits q.toByte.toNat payload := by
  cases q
  case mapWrite =>
    obtain ⟨n, hn, hlen⟩ := Option.map_eq_some_iff.1 h
    exact .inr (.inl ⟨rfl, n, hn, hlen.symm⟩)
  all_goals
    refine .inl ?_
    rw [← Option.some.inj h]
    decide

/-- An immediate command whose payload has its length, and RESET-PART its scope (R122, R124). -/
theorem payloadFits_of_immediate {i : ImmediateCode} {payload : List Word} (h : commandFits (.immediate i) payload = true) :
    payloadFits i.toByte.toNat payload := by
  simp only [commandFits, Bool.and_eq_true, decide_eq_true_eq] at h
  obtain ⟨hlen, hscope⟩ := h
  cases i
  case resetPart => exact .inr (.inr ⟨rfl, hlen, by simpa using hscope⟩)
  all_goals
    refine .inl ?_
    rw [hlen]
    decide

/-- The lengths of R122 are the payloads that pass the check of their code (R124). -/
theorem payloadFits_iff (w0 : Word) (payload : List Word) :
    payloadFits (w0.toNat / 256) payload
      ↔ ∃ code, CommandCode.ofByte (codeOf w0) = some code ∧ commandFits code payload = true := by
  refine ⟨fun h => ?_, fun ⟨code, hcode, hfits⟩ => ?_⟩
  · obtain ⟨code, hcode, hfits⟩ := commandFits_of_payloadFits h
    rw [← codeOf_eq_ofNat] at hcode
    exact ⟨code, hcode, hfits⟩
  · rw [← codeOf_toNat]
    cases code with
    | queued q =>
      rw [CommandCode.ofByte_eq_queued hcode]
      exact payloadFits_of_queuedLength (by simpa [commandFits] using hfits)
    | immediate i =>
      rw [CommandCode.ofByte_eq_immediate hcode]
      exact payloadFits_of_immediate hfits

/-- A refusal on arrival, by the numbers of payload word 0 (R125). -/
theorem refuse_word (w0 : Word) (rest : List Word) (reason : RefusalReason) (s : State) :
    refuse (w0 :: rest) reason (heardCommand s)
      = { heardCommand s with
          part := { (heardCommand s).part with commandsRefused := satAdd s.part.commandsRefused 1 }
          partLatch :=
            latchAdd 8 .latest [natWord (w0.toNat % 256), natWord (w0.toNat / 256), reason.code] s.partLatch } := by
  have htag : (tagOf w0).setWidth 16 = natWord (w0.toNat % 256) := by
    rw [tagOf_eq_ofNat]
    refine (natWord_eq_of_toNat ?_).symm
    rw [BitVec.toNat_setWidth, BitVec.toNat_ofNat]; omega
  have hcode : (codeOf w0).setWidth 16 = natWord (w0.toNat / 256) := by
    refine (natWord_eq_of_toNat ?_).symm
    rw [BitVec.toNat_setWidth, codeOf_toNat]; omega
  simp only [refuse, latchPart, countPart, htag, hcode, heardCommand_part, heardCommand_partLatch]
  rfl

section
variable {w0 target : Word} {params : List Word} {pathBefore : ReportPath} {s : State}

/-- An unknown code or a length that does not fit is malformed (R124). -/
theorem admission_of_malformed (h : ¬ payloadFits (w0.toNat / 256) (w0 :: target :: params)) :
    admission (w0 :: target :: params) pathBefore s = refuse (w0 :: target :: params) .malformed s := by
  rw [payloadFits_iff] at h
  cases hcode : CommandCode.ofByte (codeOf w0) with
  | none => simp only [admission, hcode]
  | some code =>
    have hfits : commandFits code (w0 :: target :: params) = false :=
      Bool.eq_false_iff.2 fun hfits => h ⟨code, hcode, hfits⟩
    simp only [admission, hcode, hfits, Bool.not_false, if_true]

variable (hnew : (tagOf w0, codeOf w0) ∉ s.recent)
include hnew

/-- A queued command that fits and is no duplicate meets the queue and the report space (R123). -/
theorem admission_of_queued {q : QueuedCode} (hcode : CommandCode.ofByte (codeOf w0) = some (.queued q))
    (hfits : commandFits (.queued q) (w0 :: target :: params) = true) :
    admission (w0 :: target :: params) pathBefore s
      = if 4 ≤ s.commandQueue.length then refuse (w0 :: target :: params) .queueFull s
        else if 16 ≤ s.reportLoad then refuse (w0 :: target :: params) .noReportSpace s
        else enterQueue { tag := tagOf w0, code := q, target := target, params := params } s := by
  simp only [admission, hcode, hfits, Bool.not_true, Bool.false_eq_true, if_false]
  exact if_neg (by simpa using hnew)

/-- STATUS that fits and is no duplicate is refused without report space (R123). -/
theorem admission_of_status_full (hcode : CommandCode.ofByte (codeOf w0) = some (.immediate .status))
    (hfits : commandFits (.immediate .status) (w0 :: target :: params) = true) (hfull : ¬ s.reportLoad < 16) :
    admission (w0 :: target :: params) pathBefore s = refuse (w0 :: target :: params) .noReportSpace s := by
  simp only [admission, hcode, hfits, Bool.not_true, Bool.false_eq_true, if_false, takeImmediate, if_neg hfull]
  exact if_neg (by simpa using hnew)

end

/-- The codes below 32 name queued commands. -/
theorem exists_queued_of_lt {b : Byte} {code : CommandCode} (h : CommandCode.ofByte b = some code) (hlt : b.toNat < 32) :
    ∃ q, code = .queued q := by
  cases code with
  | queued q => exact ⟨q, rfl⟩
  | immediate i =>
    rw [CommandCode.ofByte_eq_immediate h] at hlt
    cases i <;> exact absurd hlt (by decide)

theorem enterRecent_eq (tag code : Byte) (l : List (Byte × Byte)) :
    enterRecent tag code l = l.drop (if 8 ≤ l.length then l.length - 7 else 0) ++ [(tag, code)] := by
  rw [enterRecent]
  split <;> rfl

/-- Settles O32: the checks of admission in their order. -/
theorem admissionRefusesOrQueues : Obligations.AdmissionRefusesOrQueues := by
  intro r ws f s hr hs h refused
  have hexec := exec_of_hearsFrame_command hr hs
  refine ⟨fun hempty => ?empty, fun w0 hone => ?one, fun w0 target params hpayload => ?_⟩
  case empty =>
    simp only [refused]
    rw [hexec, hempty]
    simp only [admission, refuse, latchPart, countPart, heardCommand_part, heardCommand_partLatch, h]
    rfl
  case one =>
    simp only [refused]
    rw [hexec, hone, show admission [w0] s.path (heardCommand s) = refuse [w0] .malformed (heardCommand s) from rfl,
      refuse_word]
    rfl
  intro code tag
  have refuses {reason : RefusalReason}
      (hjudged : admission (w0 :: target :: params) s.path (heardCommand s)
        = refuse (w0 :: target :: params) reason (heardCommand s)) : refused [natWord tag, natWord code, reason.code] := by
    simp only [refused]
    rw [hexec, hpayload, hjudged, refuse_word]
  rw [hpayload]
  refine ⟨fun hbad => refuses (admission_of_malformed hbad), fun hgood hnew => ?_⟩
  have hload : (heardCommand s).reportLoad = s.reports.length + s.reservations := heardCommand_reportLoad s
  have hqueue : (heardCommand s).commandQueue = s.commandQueue := heardCommand_commandQueue s
  rw [← tagOf_eq_ofNat, ← codeOf_eq_ofNat, ← heardCommand_recent] at hnew
  obtain ⟨known, hknown, hfits⟩ := (payloadFits_iff w0 _).1 hgood
  have hjudged (hlt : code < 32) :
      ∃ q, CommandCode.ofByte (codeOf w0) = some (.queued q)
        ∧ commandFits (.queued q) (w0 :: target :: params) = true := by
    obtain ⟨q, rfl⟩ := exists_queued_of_lt hknown (by rwa [codeOf_toNat])
    exact ⟨q, hknown, hfits⟩
  refine ⟨fun hlt hfull => ?queueFull, fun hlt hplace hload16 => ?noSpace, fun hstatus hload16 => ?status,
    fun q hq hwaiting hplace hroom => ?queued⟩
  case queueFull =>
    obtain ⟨q, hcode, hfits⟩ := hjudged hlt
    refine refuses (reason := .queueFull) ?_
    rw [admission_of_queued hnew hcode hfits, if_pos (by rwa [hqueue])]
  case noSpace =>
    obtain ⟨q, hcode, hfits⟩ := hjudged hlt
    refine refuses (reason := .noReportSpace) ?_
    rw [admission_of_queued hnew hcode hfits, if_neg (by rw [hqueue]; omega), if_pos (by rwa [hload])]
  case status =>
    have hbyte : codeOf w0 = ImmediateCode.status.toByte := by
      rw [BitVec.toNat_eq, codeOf_toNat]; exact hstatus
    have hcode : CommandCode.ofByte (codeOf w0) = some (.immediate .status) := by
      rw [hbyte, CommandCode.ofByte_immediate]
    obtain rfl : known = .immediate .status := Option.some.inj (hknown.symm.trans hcode)
    exact refuses (reason := .noReportSpace) (admission_of_status_full hnew hcode hfits (by rw [hload]; omega))
  case queued =>
    have hbyte : codeOf w0 = q.toByte := by rw [BitVec.toNat_eq, codeOf_toNat]; exact hq
    have hcode : CommandCode.ofByte (codeOf w0) = some (.queued q) := by rw [hbyte, CommandCode.ofByte_queued]
    obtain rfl : known = .queued q := Option.some.inj (hknown.symm.trans hcode)
    have hne : s.commandQueue ≠ [] := List.ne_nil_of_length_pos hwaiting
    rw [hexec, hpayload, admission_of_queued hnew hcode hfits, if_neg (by rw [hqueue]; omega),
      if_neg (by rw [hload]; omega), enterQueue, if_neg (by simpa using hne)]
    simp only [countPart, enterRecent_eq, ← hbyte, tagOf_eq_ofNat, codeOf_eq_ofNat, heardCommand_reservations,
      heardCommand_commandQueue, heardCommand_recent, heardCommand_part, h]
    rfl

end Sys2Proof.Machine
end

section
/-! SUPPORT. The queued commands at the head (sections 1.4, 5.4, 7.6, 8.1): the result of each by its checks, which read
only stores that admission leaves (R128), so that the command ends or stays on arrival as it does at the head. -/

namespace Sys2Proof.Machine

set_option Elab.async false

open Sys2Proof.Safety

/-! ### The stores that a command reads -/

/-- The stores that the queued commands read are those of an earlier state. -/
structure SameStores (s t : State) : Prop where
  contexts : t.contexts = s.contexts
  streamMap : t.streamMap = s.streamMap
  selectionMap : t.selectionMap = s.selectionMap
  profiles : t.profiles = s.profiles
  staging : t.staging = s.staging
  generation : t.generation = s.generation

namespace SameStores
variable {s t : State}

theorem refl (s : State) : SameStores s s := ⟨rfl, rfl, rfl, rfl, rfl, rfl⟩

/-- Admission leaves the stores that the commands read (R128). -/
theorem admitted (q : QueuedCode) (tag : Byte) (s : State) : SameStores s (admitted q tag s) :=
  ⟨admitted_contexts .., admitted_streamMap .., admitted_selectionMap .., admitted_profiles .., admitted_staging ..,
    admitted_generation ..⟩

theorem context (h : SameStores s t) (i : Fin 32) : t.context i = s.context i := by
  rw [State.context, h.contexts, State.context]

end SameStores

section
variable {row : Port → List Word → Instr} {q : QueuedCode} {target : Word} {params : List Word} {s : State}
  {effect : State → State}
  (hrow : ∀ ws, (row .control ws).frame? = some (.control, ws)) (hlen : params.length ≤ 58)
  (hfits : ∀ w, queuedLength q (w :: target :: params) = some (params.length + 2))
include hrow hlen hfits

/-- A command whose end turns on these stores ends on arrival as it ends at the head. -/
theorem endsAtHead_of_stores {o : CommandOutcome} {data : List Word}
    (hhead : ∀ t : State, SameStores s t → ∀ tag : Byte,
      takeHead { tag, code := q, target, params } t = .ends o data (effect t)) :
    EndsAtHead row q target params s o data effect :=
  endsAtHead_of_takeHead hrow hlen hfits (hhead s (.refl s)) fun tag => hhead _ (.admitted q tag s) tag

/-- A command that stays at the head stays on arrival, and is then all of the queue (R130). -/
theorem staysAtHead_of_stores
    (hhead : ∀ t : State, SameStores s t → ∀ tag : Byte,
      takeHead { tag, code := q, target, params } t = .stays (effect t)) :
    StaysAtHead row q target params s effect := by
  refine ⟨hhead s (.refl s), fun tag seq channel hs => ?_⟩
  rw [exec_of_hearsCommand hs.1 seq channel target hlen (hrow _), admission_of_takesNow hs target params s.path (hfits _),
    runQueue_of_stays (hhead _ (.admitted q tag s) tag)]

end

/-! ### NOP and SET-PART (R135, R136) -/

/-- The final report of NOP names no context (R131). -/
theorem finalBody_nop {c : Command} (h : c.code = .nop) (o : CommandOutcome) :
    finalBody c o 0 [] = .completion c.tag 1 o 0 255 [] := by
  have hfield : c.contextField = 255 := by
    rw [Command.contextField_eq, h]
    exact if_neg fun hacts => absurd hacts.1 (by decide)
  rw [finalBody, hfield, h]
  rfl

/-- Two commands that end together: the first as it ends, the second flushed (R133). -/
theorem endsFlushing_pair (c c' : Command) (o : CommandOutcome) (data : List Word) (s : State) :
    endsFlushing o 0 data { s with commandQueue := [c, c'] }
      = queueReport (finalBody c' .flushed 0 [])
          (queueReport (finalBody c o 0 data)
            { s with reservations := s.reservations - 2, commandQueue := [], executing := false }) := by
  simp only [endsFlushing, queueReport, numbered, List.map_cons, List.map_nil, List.length_cons, List.length_nil,
    List.append_assoc, List.cons_append, List.nil_append, BitVec.add_assoc]
  rfl

theorem takeHead_setPart (tag : Byte) (target interval limit : Word) (s : State) :
    takeHead { tag, code := .setPart, target, params := [interval, limit] } s
      = if target ≠ 255 ∨ interval.toNat < 1 ∨ 255 < interval.toNat ∨ limit.toNat < 1 ∨ 15 < limit.toNat then
          .ends .badParameter [] s
        else
          .ends .done [interval, limit] { s with retryInterval := interval.setWidth 8, retryLimit := limit.setWidth 4 } := by
  simp only [takeHead, takeSetPart, failHead, Bool.or_eq_true, decide_eq_true_eq, or_assoc]

/-- Settles O34: NOP passes no check and changes nothing; SET-PART passes its check or fails it. -/
theorem nopAndSetPartComplete : Obligations.NopAndSetPartComplete := by
  refine ⟨⟨fun s target => ?nop, fun c rest s hc => ⟨?done, fun before o data => ?flushed⟩⟩,
    fun s target interval limit => ?setPart⟩
  case nop => exact endsAtHead_of_stores (fun _ => rfl) (by simp) (fun _ => rfl) fun _ _ _ => rfl
  case done =>
    have hhead : takeHead c s = .ends .done [] s := by simp only [takeHead, hc]
    rw [runQueue_of_done hhead, ← finalBody_nop hc]
    rfl
  case flushed => rw [endsFlushing_pair, finalBody_nop hc]
  case setPart =>
    intro ends
    have sets {o data effect} := @endsAtHead_of_stores .setPart .setPart target [interval, limit] s effect
      (fun _ => rfl) (by simp) (fun _ => rfl) o data
    split
    case isTrue hbad => exact sets fun t _ tag => (takeHead_setPart ..).trans (if_pos hbad)
    case isFalse hok => exact sets fun t _ tag => (takeHead_setPart ..).trans (if_neg hok)

/-! ### BIND and UNBIND (R16, R17) -/

section
variable (node channel variant mode fixed : Word)

/-- R16: parameters that BIND refuses. -/
abbrev BadBindParams : Prop :=
  node.toNat < 1 ∨ 29 < node.toNat ∨ 7 < channel.toNat ∨ 1 < variant.toNat ∨ 1 < mode.toNat
    ∨ (mode = 1 ∧ 63 < fixed.toNat)

theorem bindParamsOk_iff :
    bindParamsOk node channel variant mode fixed = true ↔ ¬ BadBindParams node channel variant mode fixed := by
  have hauto : mode = 0 ↔ mode.toNat = 0 := BitVec.toNat_eq
  have hfixed : mode = 1 ↔ mode.toNat = 1 := BitVec.toNat_eq
  simp only [bindParamsOk, BadBindParams, Bool.and_eq_true, Bool.or_eq_true, decide_eq_true_eq, hauto, hfixed]
  omega

/-- The key of BIND's parameters in the Stream Map (R1). -/
theorem bindKey_index (hok : ¬ BadBindParams node channel variant mode fixed) :
    Key.index { node := node.setWidth 5, channel := channel.setWidth 3 }
      = BitVec.ofNat 8 (8 * node.toNat + channel.toNat) := by
  have hnode : node.toNat % 32 = node.toNat := by omega
  have hchannel : channel.toNat % 8 = channel.toNat := by omega
  rw [Key.index_eq, BitVec.toNat_setWidth, BitVec.toNat_setWidth]
  simp only [Nat.reducePow, hnode, hchannel]

theorem takeHead_bind (tag : Byte) (i : Fin 32) (s : State) :
    takeHead { tag, code := .bind, target := natWord i, params := [node, channel, variant, mode, fixed] } s
      = if BadBindParams node channel variant mode fixed then .ends .badParameter [] s
        else if (s.context i).state ≠ .free then .ends .wrongState [] s
        else if Table.get (BitVec.ofNat 8 (8 * node.toNat + channel.toNat)) s.streamMap ≠ none then
          .ends .keyInUse [] s
        else
          .ends .done []
            { s with
              streamMap := Table.put (BitVec.ofNat 8 (8 * node.toNat + channel.toNat)) i s.streamMap
              contexts :=
                s.contexts.set i
                  { Context.free with
                    state := .bound
                    key := some { node := node.setWidth 5, channel := channel.setWidth 3 }
                    variant := variant.setWidth 1
                    mode := if mode = 0 then .auto else .fixed (fixed.setWidth 6)
                    latch := (s.context i).latch } } := by
  simp only [takeHead, takeBind, targetContext_natWord, failHead]
  have hparams := bindParamsOk_iff node channel variant mode fixed
  by_cases hbad : BadBindParams node channel variant mode fixed
  · rw [if_pos hbad, if_pos (by rw [Bool.not_eq_true', ← Bool.not_eq_true, hparams]; exact not_not.2 hbad)]
  · rw [if_neg hbad, if_neg (by rw [Bool.not_eq_true', Bool.not_eq_false, hparams]; exact hbad)]
    simp only [State.resolve, bindKey_index node channel variant mode fixed hbad, Option.isSome_iff_ne_none]
    rfl

end

theorem takeHead_bind_of_gt {target : Word} (h : 31 < target.toNat) (tag : Byte) (params : List Word) (s : State) :
    takeHead { tag, code := .bind, target, params } s = .ends .badParameter [] s := by
  simp only [takeHead, takeBind, targetContext_of_gt h, failHead]

theorem takeHead_unbind_of_gt {target : Word} (h : 31 < target.toNat) (tag : Byte) (params : List Word) (s : State) :
    takeHead { tag, code := .unbind, target, params } s = .ends .badParameter [] s := by
  simp only [takeHead, takeUnbind, targetContext_of_gt h, failHead]

theorem takeHead_unbind_of_free {i : Fin 32} {s : State} (h : (s.context i).state = .free) (tag : Byte)
    (params : List Word) :
    takeHead { tag, code := .unbind, target := natWord i, params } s = .ends .wrongState [] s := by
  simp only [takeHead, takeUnbind, targetContext_natWord, if_pos h, failHead]

theorem takeHead_unbind {i : Fin 32} {s : State} {key : Key} (h : (s.context i).state ≠ .free)
    (hkey : (s.context i).key = some key) (tag : Byte) (params : List Word) :
    takeHead { tag, code := .unbind, target := natWord i, params } s
      = .ends .done []
          { s with
            streamMap := Table.erase (BitVec.ofNat 8 (8 * key.node.toNat + key.channel.toNat)) s.streamMap
            contexts := s.contexts.set i Context.free } := by
  simp only [takeHead, takeUnbind, targetContext_natWord, if_neg h, hkey, Key.index_eq]
  rfl

/-- Settles O35: the checks of BIND in their order, and the two of UNBIND. -/
theorem bindAndUnbindMoveTheKey : Obligations.BindAndUnbindMoveTheKey := by
  refine ⟨fun s node channel variant mode fixed => ⟨fun target hgt => ?bindNone, fun i => ?bind⟩,
    fun s => ⟨fun target hgt => ?unbindNone, fun i => ⟨fun hfree => ?unbindFree, fun key hbound hkey => ?unbind⟩⟩⟩
  case bindNone =>
    exact endsAtHead_of_stores (fun _ => rfl) (by simp) (fun _ => rfl) fun t _ tag => takeHead_bind_of_gt hgt tag _ t
  case bind =>
    intro ends key
    have binds {o data effect} := @endsAtHead_of_stores .bind .bind (natWord i) [node, channel, variant, mode, fixed] s effect
      (fun _ => rfl) (by simp) (fun _ => rfl) o data
    have hhead := takeHead_bind node channel variant mode fixed
    split
    case isTrue hbad => exact binds fun t _ tag => by rw [hhead, if_pos hbad, id]
    case isFalse hok =>
    split
    case isTrue hused => exact binds fun t ht tag => by rw [hhead, if_neg hok, if_pos (by rwa [ht.context]), id]
    case isFalse hfree =>
    split
    case isTrue htaken =>
      exact binds fun t ht tag => by
        rw [hhead, if_neg hok, if_neg (by rwa [ht.context]), if_pos (by rwa [ht.streamMap]), id]
    case isFalse hnew =>
      exact binds fun t ht tag => by
        rw [hhead, if_neg hok, if_neg (by rwa [ht.context]), if_neg (by rwa [ht.streamMap])]
  case unbindNone =>
    exact endsAtHead_of_stores (fun _ => rfl) (by simp) (fun _ => rfl) fun t _ tag => takeHead_unbind_of_gt hgt tag _ t
  case unbindFree =>
    exact endsAtHead_of_stores (fun _ => rfl) (by simp) (fun _ => rfl) fun t ht tag =>
      takeHead_unbind_of_free (by rwa [ht.context]) tag _
  case unbind =>
    exact endsAtHead_of_stores (fun _ => rfl) (by simp) (fun _ => rfl) fun t ht tag =>
      takeHead_unbind (by rwa [ht.context]) (by rwa [ht.context]) tag _

/-! ### HOLD and RESUME (R20, R21) -/

theorem takeHead_hold_of_gt {target : Word} (h : 31 < target.toNat) (tag : Byte) (s : State) :
    takeHead { tag, code := .hold, target, params := [] } s = .ends .badParameter [] s := by
  simp only [takeHead, takeHold, targetContext_of_gt h, failHead]

theorem takeHead_hold (tag : Byte) (i : Fin 32) (s : State) :
    takeHead { tag, code := .hold, target := natWord i, params := [] } s
      = if (s.context i).state = .free ∨ (s.context i).held = true then .ends .wrongState [] s
        else .ends .done [] { s with contexts := s.contexts.set i { s.context i with held := true } } := by
  simp only [takeHead, takeHold, targetContext_natWord, failHead, Bool.or_eq_true, decide_eq_true_eq]
  rfl

theorem takeHead_resume_of_gt {target : Word} (h : 31 < target.toNat) (tag : Byte) (s : State) :
    takeHead { tag, code := .resume, target, params := [] } s = .ends .badParameter [] s := by
  simp only [takeHead, takeResume, targetContext_of_gt h, failHead]

theorem takeHead_resume (tag : Byte) (i : Fin 32) (s : State) :
    takeHead { tag, code := .resume, target := natWord i, params := [] } s
      = if (s.context i).held = false then .ends .wrongState [] s
        else .ends .done [] { s with contexts := s.contexts.set i { s.context i with held := false } } := by
  simp only [takeHead, takeResume, targetContext_natWord, failHead, Bool.not_eq_true']
  rfl

/-- Settles O37: the check of each command on the record, which admission leaves. -/
theorem holdAndResumeSwitchTheHeldFlag : Obligations.HoldAndResumeSwitchTheHeldFlag := by
  refine ⟨fun s => ⟨fun target hgt => ?holdNone, fun i => ?hold⟩,
    fun s => ⟨fun target hgt => ?resumeNone, fun i => ?resume⟩⟩
  case holdNone =>
    exact endsAtHead_of_stores (fun _ => rfl) (by simp) (fun _ => rfl) fun t _ tag => takeHead_hold_of_gt hgt tag t
  case hold =>
    intro ends
    have holds {o data effect} := @endsAtHead_of_context .hold .hold (natWord i) [] s o data effect i
      (fun _ => rfl) (by simp) (fun _ => rfl)
    split
    case isTrue hbad => exact holds fun t ht tag => (takeHead_hold tag i t).trans (if_pos (by rwa [ht]))
    case isFalse hok => exact holds fun t ht tag => (takeHead_hold tag i t).trans (if_neg (by rwa [ht]))
  case resumeNone =>
    exact endsAtHead_of_stores (fun _ => rfl) (by simp) (fun _ => rfl) fun t _ tag => takeHead_resume_of_gt hgt tag t
  case resume =>
    intro ends
    have resumes {o data effect} := @endsAtHead_of_context .resume .resume (natWord i) [] s o data effect i (fun _ => rfl)
      (by simp) (fun _ => rfl)
    split
    case isTrue hbad => exact resumes fun t ht tag => (takeHead_resume tag i t).trans (if_pos (by rwa [ht]))
    case isFalse hok => exact resumes fun t ht tag => (takeHead_resume tag i t).trans (if_neg (by rwa [ht]))

/-! ### PROFILE-COMMIT and CAPTURE (R85, R145 to R148) -/

theorem takeHead_profileCommit (tag : Byte) (target : Word) (s : State) :
    takeHead { tag, code := .profileCommit, target, params := [] } s
      = if target ≠ 255 then .ends .badParameter [] s
        else if s.staging = [] then .ends .done [0, s.generation, 0, 0, 0] s
        else .stays { s with commitPending := true } := rfl

/-- Settles O44: the target, and what is staged. -/
theorem profileCommitCompletesOrBecomesPending : Obligations.ProfileCommitCompletesOrBecomesPending := by
  intro s target ends
  have commits {o data effect} := @endsAtHead_of_stores .profileCommit .profileCommit target [] s effect
    (fun _ => rfl) (by simp) (fun _ => rfl) o data
  split
  case isTrue hbad => exact commits fun t _ tag => (takeHead_profileCommit tag target t).trans (if_pos hbad)
  case isFalse hok =>
  split
  case isTrue hempty =>
    exact commits fun t ht tag => by
      rw [takeHead_profileCommit, if_neg hok, if_pos (by rwa [ht.staging]), ht.generation, id]
  case isFalse hstaged =>
    exact staysAtHead_of_stores (fun _ => rfl) (by simp) (fun _ => rfl) fun t ht tag => by
      rw [takeHead_profileCommit, if_neg hok, if_neg (by rwa [ht.staging])]

/-- The staged record of a target, as the model's search finds it (R80). -/
theorem stagedRecord_isSome (p : BitVec 6) (l : List Staged) :
    (stagedRecord p l).isSome = l.any fun e => e.target = p := by
  rw [stagedRecord, Option.isSome_map, List.isSome_find?]

theorem captureSource_eq (p : BitVec 6) (s : State) :
    captureSource p s = if s.staging.any fun e => e.target = p then .staging else .table := by
  rw [captureSource, stagedRecord_isSome]

/-- The source of a capture is valid: its staged record if there is one, else the table's (R146). -/
theorem sourceRecord_isSome (p : BitVec 6) (s : State) :
    (sourceRecord (captureSource p s) p s).isSome
      = if s.staging.any fun e => e.target = p then
          (s.staging.find? fun e => e.target = p).any fun e => e.record.isSome
        else (Table.get p s.profiles).isSome := by
  rw [captureSource_eq]
  split
  case isTrue hstaged =>
    simp only [sourceRecord, stagedRecord]
    cases s.staging.find? fun e => e.target = p with
    | none => rfl
    | some e => cases h : e.record <;> simp [h]
  case isFalse hnew => rfl

section
variable (profile mode n t hi lo : Word)

/-- R145: parameters that CAPTURE refuses. -/
abbrev BadCaptureParams : Prop :=
  63 < profile.toNat ∨ 1 < mode.toNat ∨ n.toNat < 1 ∨ 4096 < n.toNat ∨ t.toNat < 1 ∨ 255 < t.toNat

theorem captureParamsOk_iff : captureParamsOk profile mode n t = true ↔ ¬ BadCaptureParams profile mode n t := by
  simp only [captureParamsOk, Bool.and_eq_true, decide_eq_true_eq]
  omega

theorem takeHead_capture_of_gt {target : Word} (h : 31 < target.toNat) (tag : Byte) (params : List Word) (s : State) :
    takeHead { tag, code := .capture, target, params } s = .ends .badParameter [] s := by
  simp only [takeHead, takeCapture, targetContext_of_gt h, failHead]

theorem takeHead_capture (tag : Byte) (i : Fin 32) (s : State) :
    takeHead { tag, code := .capture, target := natWord i, params := [profile, mode, n, t, hi, lo] } s
      = if BadCaptureParams profile mode n t then .ends .badParameter [] s
        else if (s.context i).state ≠ .active ∨ (s.context i).held = true then .ends .wrongState [] s
        else if (sourceRecord (captureSource (profile.setWidth 6) s) (profile.setWidth 6) s).isSome = false then
          .ends .wrongState [] s
        else
          .stays
            { s with
              capture :=
                some
                  { context := i, profile := profile.setWidth 6, mode := if mode = 0 then .zero else .span, n := n.toNat,
                    t := t.toNat, reference := pairValue hi lo, source := captureSource (profile.setWidth 6) s,
                    epoch := (s.context i).epoch, stage := .armed, sum := 0, count := 0, cycles := 0, gaps := 0 } } := by
  simp only [takeHead, takeCapture, targetContext_natWord, failHead]
  have hparams := captureParamsOk_iff profile mode n t
  by_cases hbad : BadCaptureParams profile mode n t
  · rw [if_pos hbad, if_pos (by rw [Bool.not_eq_true', ← Bool.not_eq_true, hparams]; exact not_not.2 hbad)]
  · rw [if_neg hbad, if_neg (by rw [Bool.not_eq_true', Bool.not_eq_false, hparams]; exact hbad)]
    simp only [Bool.or_eq_true, decide_eq_true_eq, Option.isNone_iff_eq_none, Option.isSome_eq_false_iff]

end

/-- Settles O45: the parameters, the record, the source; and then the capture starts ARMED. -/
theorem captureStartsArmedOrFails : Obligations.CaptureStartsArmedOrFails := by
  intro s profile mode n t hi lo params
  refine ⟨fun target hgt => ?none, fun i => ?context⟩
  case none =>
    exact endsAtHead_of_stores (fun _ => rfl) (by simp [params]) (fun _ => rfl) fun u _ tag =>
      takeHead_capture_of_gt hgt tag _ u
  case context =>
    intro ends p staged sourceValid
    have captures {o data effect} := @endsAtHead_of_stores .capture .capture (natWord i) params s effect
      (fun _ => rfl) (by simp [params]) (fun _ => rfl) o data
    have hhead := takeHead_capture profile mode n t hi lo
    have hsource {u : State} (hu : SameStores s u) : (sourceRecord (captureSource p u) p u).isSome = sourceValid := by
      rw [sourceRecord_isSome, hu.staging, hu.profiles]
    split
    case isTrue hbad => exact captures fun u _ tag => by rw [hhead, if_pos hbad, id]
    case isFalse hok =>
    split
    case isTrue hstate => exact captures fun u hu tag => by rw [hhead, if_neg hok, if_pos (by rwa [hu.context]), id]
    case isFalse hactive =>
    split
    case isTrue hinvalid =>
      exact captures fun u hu tag => by
        rw [hhead, if_neg hok, if_neg (by rwa [hu.context]), if_pos ((hsource hu).trans hinvalid), id]
    case isFalse hvalid =>
      refine staysAtHead_of_stores (fun _ => rfl) (by simp [params]) (fun _ => rfl) fun u hu tag => ?_
      have hstill : ¬ (sourceRecord (captureSource p u) p u).isSome = false := by rwa [hsource hu]
      rw [hhead, if_neg hok, if_neg (by rwa [hu.context]), if_neg hstill, pairValue_eq, captureSource_eq, hu.staging,
        hu.context]

end Sys2Proof.Machine
end

section
/-! SUPPORT. The reads and writes of the tables at the head: MAP-READ and PROFILE-READ (R71, R84), MAP-WRITE (R68 to R70) and
SET-CONTEXT (R18, R19, R53). -/

namespace Sys2Proof.Machine

set_option Elab.async false

open Sys2Proof.Safety

/-! ### MAP-READ (R71) -/

/-- R68, R71: a range of entries that the map does not have. -/
abbrev BadMapRange (start count : Word) : Prop :=
  count.toNat < 1 ∨ 32 < count.toNat ∨ 255 < start.toNat ∨ 256 < start.toNat + count.toNat

theorem mapRangeOk_iff (start count : Word) : mapRangeOk start count = true ↔ ¬ BadMapRange start count := by
  simp only [mapRangeOk, Bool.and_eq_true, decide_eq_true_eq]
  omega

theorem takeHead_mapRead (tag : Byte) (target start count : Word) (s : State) :
    takeHead { tag, code := .mapRead, target, params := [start, count] } s
      = if target ≠ 255 ∨ BadMapRange start count then .ends .badParameter [] s
        else .ends .done (readEntries start.toNat count.toNat s.selectionMap) s := by
  simp only [takeHead, takeMapRead, failHead, Bool.or_eq_true, decide_eq_true_eq, Bool.not_eq_true', ← Bool.not_eq_true,
    mapRangeOk_iff, not_not]

/-! ### PROFILE-READ (R84) -/

theorem takeHead_profileRead (tag : Byte) (target index source : Word) (s : State) :
    takeHead { tag, code := .profileRead, target, params := [index, source] } s
      = if target ≠ 255 ∨ 63 < index.toNat ∨ 1 < source.toNat then .ends .badParameter [] s
        else if source = 0 then
          .ends .done ([0] ++ recordWords (Table.get (index.setWidth 6) s.profiles) ++ [s.generation]) s
        else
          ((stagedRecord (index.setWidth 6) s.staging).elim (.ends .wrongState [] s) fun record =>
            .ends .done
              ([1] ++ recordWords record
                ++ [natWord (s.staging.findIdx (fun e => e.target = index.setWidth 6) + 1)])
              s) := by
  simp only [takeHead, takeProfileRead, failHead, Bool.or_eq_true, decide_eq_true_eq, or_assoc]
  cases stagedRecord (index.setWidth 6) s.staging <;> rfl

/-- The record of the first staged entry of a target, and its place (R80, R84). -/
theorem stagedRecord_append {p : BitVec 6} {before after : List Staged} (record : Option Profile)
    (hbefore : ∀ e ∈ before, e.target ≠ p) :
    stagedRecord p (before ++ { target := p, record := record } :: after) = some record := by
  rw [stagedRecord, List.find?_append, List.find?_eq_none.2 fun e he => by simpa using hbefore e he, Option.none_or,
    List.find?_cons_of_pos (by simp)]
  rfl

theorem findIdx_staged {p : BitVec 6} {before after : List Staged} (record : Option Profile)
    (hbefore : ∀ e ∈ before, e.target ≠ p) :
    (before ++ { target := p, record := record } :: after).findIdx (fun e => e.target = p) = before.length := by
  induction before with
  | nil => simp [List.findIdx_cons]
  | cons e before ih =>
    obtain ⟨he, hrest⟩ := List.forall_mem_cons.1 hbefore
    simp [List.findIdx_cons, he, ih hrest]

theorem stagedRecord_eq_none {p : BitVec 6} {l : List Staged} (h : ∀ e ∈ l, e.target ≠ p) : stagedRecord p l = none := by
  rw [stagedRecord, List.find?_eq_none.2 fun e he => by simpa using h e he, Option.map_none]

/-- Settles O42: the ranges, and the words of the entries, of the table's record and of the staged one. -/
theorem readsReturnTheTables : Obligations.ReadsReturnTheTables := by
  refine ⟨fun s target start count => ?map, fun s target index source => ?profile⟩
  case map =>
    intro ends
    have reads {o data effect} := @endsAtHead_of_stores .mapRead .mapRead target [start, count] s effect
      (fun _ => rfl) (by simp) (fun _ => rfl) o data
    split
    case isTrue hbad => exact reads fun t _ tag => (takeHead_mapRead ..).trans (if_pos hbad)
    case isFalse hok =>
      refine reads fun t ht tag => ?_
      rw [takeHead_mapRead, if_neg hok, readEntries_eq, ht.selectionMap]
      rfl
  case profile =>
    intro ends p two words
    have reads {o data effect} := @endsAtHead_of_stores .profileRead .profileRead target [index, source] s effect
      (fun _ => rfl) (by simp) (fun _ => rfl) o data
    have hwords (record : Option Profile) : recordWords record = words record := by
      cases record with
      | none => rfl
      | some r => simp only [recordWords, words, two, wordPair_eq]; rfl
    have hhead := takeHead_profileRead
    split
    case isTrue hbad => exact reads fun t _ tag => by rw [hhead, if_pos hbad, id]
    case isFalse hok =>
    split
    case isTrue htable =>
      exact reads fun t ht tag => by rw [hhead, if_neg hok, if_pos htable, hwords, ht.profiles, ht.generation, id]
    case isFalse hstaging =>
      refine ⟨fun before after record hl hbefore => reads fun t ht tag => ?_, fun hnew => reads fun t ht tag => ?_⟩
      · rw [hhead, if_neg hok, if_neg hstaging, ht.staging, hl, stagedRecord_append record hbefore,
          findIdx_staged record hbefore, ← hwords]
        rfl
      · rw [hhead, if_neg hok, if_neg hstaging, ht.staging, stagedRecord_eq_none hnew]
        rfl

/-! ### MAP-WRITE (R68 to R70) -/

theorem entryOk_iff (w : Word) : entryOk w = true ↔ ¬ (63 < w.toNat ∧ w ≠ 0xFFFF) := by
  simp only [entryOk, Bool.or_eq_true, decide_eq_true_eq, ne_eq, not_and_or, not_not, not_lt]

section
variable (start count option : Word) (entries : List Word)

/-- R68: parameters that MAP-WRITE refuses. -/
abbrev BadMapWrite : Prop :=
  count.toNat < 1 ∨ 32 < count.toNat ∨ 255 < start.toNat ∨ 256 < start.toNat + count.toNat
    ∨ (∃ w ∈ entries, 63 < w.toNat ∧ w ≠ 0xFFFF) ∨ 1 < option.toNat

variable {entries}

theorem takeHead_mapWrite (hcount : entries.length = count.toNat) (tag : Byte) (target : Word) (s : State) :
    takeHead { tag, code := .mapWrite, target, params := start :: count :: (entries ++ [option]) } s
      = if target ≠ 255 ∨ BadMapWrite start count option entries then .ends .badParameter [] s
        else if option = 1 then
          .ends .done
            (count :: runCounts (Context.inWrittenRange start.toNat count.toNat)
              { s with selectionMap := writeEntries start.toNat entries s.selectionMap })
            (runContexts (Context.inWrittenRange start.toNat count.toNat)
              { s with selectionMap := writeEntries start.toNat entries s.selectionMap })
        else .ends .done [count, 0, 0, 0] { s with selectionMap := writeEntries start.toNat entries s.selectionMap } := by
  have hentries : (!entries.all entryOk) = true ↔ ∃ w ∈ entries, 63 < w.toNat ∧ w ≠ 0xFFFF := by
    rw [Bool.not_eq_true', ← Bool.not_eq_true, List.all_eq_true]
    simp only [entryOk_iff, not_forall, not_not, exists_prop]
  have hrange : (!mapRangeOk start count) = true ↔ BadMapRange start count := by
    rw [Bool.not_eq_true', ← Bool.not_eq_true, mapRangeOk_iff, not_not]
  have hchecks : (decide (target ≠ 255) || !mapRangeOk start count || decide (entries.length ≠ count.toNat)
      || !entries.all entryOk || decide (1 < option.toNat)) = true
        ↔ target ≠ 255 ∨ BadMapWrite start count option entries := by
    simp only [Bool.or_eq_true, decide_eq_true_eq, hentries, hrange, hcount, ne_eq, not_true, or_false, or_assoc]
  simp only [takeHead, takeMapWrite, List.dropLast_concat, List.getLast?_concat, failHead, hchecks]

end

/-- The key index of a context, where it holds a descriptor (R59). -/
abbrev Context.keyIndex? (c : Context) : Option (BitVec 8) := c.descriptor.map fun d => keyIndex d c.variant

theorem inWrittenRange_eq (start count : Nat) (c : Context) :
    c.inWrittenRange start count
      = (decide (c.mode = .auto) && c.keyIndex?.any fun k => start ≤ k.toNat && k.toNat < start + count) := by
  simp only [Context.inWrittenRange, Context.keyIndex?]
  cases c.descriptor with
  | none => simp
  | some d => simp [Bool.and_assoc]

/-- A run that MAP-WRITE makes misses where the map holds no valid profile for its key index (R61, R69). -/
theorem inWrittenRange_and_runMisses (start count : Nat) (c : Context) (map : Table 8 (BitVec 6))
    (profiles : Table 6 Profile) :
    (c.inWrittenRange start count && c.runMisses map profiles)
      = (c.inWrittenRange start count
          && !(c.keyIndex?.any fun k => (Table.get k map).any (validProfile profiles))) := by
  by_cases hauto : c.mode = .auto
  · cases hd : c.descriptor with
    | none => simp [inWrittenRange_eq, Context.keyIndex?, hd]
    | some d => rw [runMisses_of_auto hauto hd, Context.keyIndex?, hd, Option.map_some, Option.any_some]
  · simp [inWrittenRange_eq, hauto]

/-- The runs over several contexts of a state whose stores are those of another, on a map of their own. -/
theorem runContexts_of_stores {s t : State} (h : SameStores s t) (map : Table 8 (BitVec 6)) (qualifies : Context → Bool) :
    runContexts qualifies { t with selectionMap := map }
      = { t with
          selectionMap := map
          contexts := contextTable fun i =>
            if qualifies (s.context i) then (s.context i).selectionRun map s.profiles else s.context i } := by
  simp only [← h.context, ← h.profiles]
  rfl

theorem runCounts_of_stores {s t : State} (h : SameStores s t) (map : Table 8 (BitVec 6)) (qualifies : Context → Bool) :
    runCounts qualifies { t with selectionMap := map }
      = [natWord ((List.finRange 32).countP fun i => qualifies (s.context i)),
          natWord
            ((List.finRange 32).countP fun i =>
              qualifies (s.context i)
                && ((s.context i).selectionRun map s.profiles).activeProfile != (s.context i).activeProfile),
          natWord
            ((List.finRange 32).countP fun i =>
              qualifies (s.context i) && (s.context i).runMisses map s.profiles)] := by
  rw [runCounts_eq]
  simp only [← h.context, ← h.profiles]
  rfl

/-- Settles O41: the checks; then the written map, on which the option makes the runs of the AUTO contexts in the range, or no
run without it. -/
theorem mapWriteWritesAndReselects : Obligations.MapWriteWritesAndReselects := by
  intro s target start count option entries hcount hshort ends
  have writes {o data effect} := @endsAtHead_of_stores .mapWrite .mapWrite target (start :: count :: (entries ++ [option])) s
    effect (fun _ => rfl) (by simp; omega) (fun w => by simp [queuedLength, hcount]) o data
  have hhead := takeHead_mapWrite start count option hcount
  split
  case isTrue hrefused => exact writes fun t _ tag => by rw [hhead, if_pos hrefused, id]
  case isFalse hok =>
    have hfits : start.toNat + entries.length ≤ 256 := by rw [hcount]; omega
    refine ⟨writeEntries start.toNat entries s.selectionMap, writeEntries_wf, fun k => ?_, ?_⟩
    · have hget := writeEntries_get s.selectionMap hfits k
      rw [hcount] at hget
      exact hget
    intro run index runs hits
    by_cases hoption : option = 1
    · have hruns (i : Fin 32) : (s.context i).inWrittenRange start.toNat count.toNat = runs i := by
        simp only [runs, hoption, decide_true, Bool.true_and, inWrittenRange_eq]
        rfl
      have hmisses (i : Fin 32) :
          (runs i && (s.context i).runMisses (writeEntries start.toNat entries s.selectionMap) s.profiles)
            = (runs i && !hits i) := by
        rw [← hruns]
        exact inWrittenRange_and_runMisses ..
      refine writes fun t ht tag => ?_
      rw [hhead, if_neg hok, if_pos hoption, ht.selectionMap, runContexts_of_stores ht, runCounts_of_stores ht]
      simp only [hruns, hmisses]
      rfl
    · have hruns (i : Fin 32) : runs i = false := by simp only [runs, hoption, decide_false, Bool.false_and]
      have hcounts (p : Fin 32 → Bool) : ((List.finRange 32).countP fun i => runs i && p i) = 0 :=
        List.countP_eq_zero.2 fun i _ => by simp [hruns]
      have hcount0 : (List.finRange 32).countP runs = 0 := List.countP_eq_zero.2 fun i _ => by simp [hruns]
      refine writes fun t ht tag => ?_
      rw [hhead, if_neg hok, if_neg hoption, ht.selectionMap, hcount0, hcounts, hcounts]
      simp only [hruns, Bool.false_eq_true, if_false, contextTable_context, ← ht.contexts]
      rfl

/-! ### SET-CONTEXT (R18, R19, R53) -/

theorem SetContextWords.selects_eq (w : SetContextWords) (n : Nat) :
    w.selects n = decide (w.select.toNat / 2 ^ n % 2 = 1) := by
  rw [SetContextWords.selects, BitVec.getLsbD, Nat.testBit_eq_decide_div_mod_eq]

/-- R18: values that SET-CONTEXT refuses. -/
abbrev SetContextWords.Bad (w : SetContextWords) : Prop :=
  w.select.toNat = 0 ∨ 255 < w.select.toNat ∨ (w.selects 0 ∧ 15 < w.lifetime.toNat)
    ∨ (w.selects 1 ∧ 15 < w.silenceLimit.toNat) ∨ (w.selects 2 ∧ 64 < w.quota.toNat)
    ∨ (w.selects 3 ∧ 1 < w.stalePolicy.toNat) ∨ (w.selects 4 ∧ 1 < w.missPolicy.toNat)
    ∨ (w.selects 5 ∧ 4095 < w.mask.toNat)
    ∨ (w.selects 6 ∧ (1 < w.mode.toNat ∨ (w.mode = 1 ∧ 63 < w.fixed.toNat)))
    ∨ (w.selects 7 ∧ 1 < w.variant.toNat)

/-- A mode word and its fixed profile are in range (R18). -/
theorem modeWords_ok_iff (mode fixed : Word) :
    (mode.toNat ≤ 1 ∧ (mode = 0 ∨ fixed.toNat ≤ 63)) ↔ ¬ (1 < mode.toNat ∨ (mode = 1 ∧ 63 < fixed.toNat)) := by
  have hauto : mode = 0 ↔ mode.toNat = 0 := BitVec.toNat_eq
  have hfixed : mode = 1 ↔ mode.toNat = 1 := BitVec.toNat_eq
  rw [hauto, hfixed]
  omega

theorem SetContextWords.ok_iff (w : SetContextWords) : w.ok = true ↔ ¬ w.Bad := by
  have hselect : w.select = 0 ↔ w.select.toNat = 0 := BitVec.toNat_eq
  simp only [SetContextWords.ok, SetContextWords.Bad, Bool.and_eq_true, Bool.or_eq_true, Bool.not_eq_true',
    decide_eq_true_eq, modeWords_ok_iff, ne_eq, hselect, not_or, not_and, ← Bool.not_eq_true, and_assoc, not_lt,
    imp_iff_not_or, Nat.lt_succ_iff]

/-- SET-CONTEXT by its checks and the record it leaves (R18, R19). -/
theorem takeHead_setContext (w : SetContextWords) (tag : Byte) (i : Fin 32) (s : State) :
    takeHead
        { tag, code := .setContext, target := natWord i,
          params :=
            [w.select, w.lifetime, w.silenceLimit, w.quota, w.stalePolicy, w.missPolicy, w.mask, w.mode, w.fixed,
              w.variant] } s
      = if w.Bad then .ends .badParameter [] s
        else if (s.context i).state = .free then .ends .wrongState [] s
        else
          .ends .done (stateWords (w.apply s.selectionMap s.profiles (s.context i)))
            (s.setContext i (w.apply s.selectionMap s.profiles (s.context i))) := by
  have hbad : (!w.ok) = true ↔ w.Bad := by rw [Bool.not_eq_true', ← Bool.not_eq_true, w.ok_iff, not_not]
  simp only [takeHead, takeSetContext, targetContext_natWord, failHead, hbad]

theorem takeHead_setContext_of_gt {target : Word} (h : 31 < target.toNat) (tag : Byte) (params : List Word) (s : State) :
    takeHead { tag, code := .setContext, target, params } s = .ends .badParameter [] s := by
  simp only [takeHead, takeSetContext, targetContext_of_gt h, failHead]

/-- A selection run follows where the stored mode or variant differs from before (R19). -/
theorem SetContextWords.apply_eq (w : SetContextWords) (map : Table 8 (BitVec 6)) (profiles : Table 6 Profile) (c : Context) :
    w.apply map profiles c
      = if (w.store c).mode = c.mode ∧ (w.store c).variant = c.variant then w.store c
        else (w.store c).selectionRun map profiles := by
  simp only [SetContextWords.apply, Bool.or_eq_true, decide_eq_true_eq, ne_eq]
  by_cases h : (w.store c).mode = c.mode ∧ (w.store c).variant = c.variant
  · rw [if_pos h, if_neg (by tauto)]
  · rw [if_neg h, if_pos (by tauto)]

/-- R53: remaining after a SET-CONTEXT of the lifetime. -/
theorem Context.remainingUnder_eq (l : BitVec 4) (c : Context) :
    c.remainingUnder l
      = if c.descriptor = none ∨ c.state = .stale then 0
        else if c.lifetime = 0 ∧ l ≠ 0 then l
        else if c.remaining.toNat < l.toNat then c.remaining
        else l := by
  simp only [Context.remainingUnder, Bool.or_eq_true, Bool.and_eq_true, decide_eq_true_eq, Option.isNone_iff_eq_none,
    BitVec.lt_def]

/-- Settles O36: the checks, the stored groups, and the run on a new mode or variant. -/
theorem setContextStoresTheSelectedGroups : Obligations.SetContextStoresTheSelectedGroups := by
  intro s select lifetime limit quota stale miss mask mode fixed variant params
  refine ⟨fun target hgt => ?none, fun i => ?context⟩
  case none =>
    exact endsAtHead_of_stores (fun _ => rfl) (by simp [params]) (fun _ => rfl) fun t _ tag =>
      takeHead_setContext_of_gt hgt tag _ t
  case context =>
    intro ends bit
    let w : SetContextWords :=
      { select, lifetime, silenceLimit := limit, quota, stalePolicy := stale, missPolicy := miss, mask, mode, fixed, variant }
    have hbit (n : Nat) : w.selects n = bit n := w.selects_eq n
    have sets {o data effect} := @endsAtHead_of_stores .setContext .setContext (natWord i) params s effect
      (fun _ => rfl) (by simp [params]) (fun _ => rfl) o data
    have hhead := takeHead_setContext w
    simp only [SetContextWords.Bad, hbit] at hhead
    split
    case isTrue hbad => exact sets fun t _ tag => (hhead tag i t).trans (if_pos hbad)
    case isFalse hok =>
    split
    case isTrue hfree => exact sets fun t ht tag => (hhead tag i t).trans ((if_neg hok).trans (if_pos (by rwa [ht.context])))
    case isFalse hbound =>
      intro c new stored after
      have hstored : w.store c = stored := by
        simp only [SetContextWords.store, hbit, Context.remainingUnder_eq]
        rfl
      refine sets fun t ht tag => (hhead tag i t).trans ((if_neg hok).trans ((if_neg (by rwa [ht.context])).trans ?_))
      have hafter : w.apply t.selectionMap t.profiles (t.context i) = after := by
        rw [ht.context, ht.selectionMap, ht.profiles, SetContextWords.apply_eq, hstored]
      rw [hafter]
      rfl

end Sys2Proof.Machine
end
